-- ==== Sys2Proof/Word.lean ====
section
/-! DEFINITION. Word widths and index types of the Flumar 4208 (spec 11 R176). -/

namespace Sys2Proof

/-- u8. -/
abbrev Byte := BitVec 8
/-- u16. -/
abbrev Half := BitVec 16
/-- u32. -/
abbrev Word := BitVec 32
/-- u64. -/
abbrev DWord := BitVec 64
/-- A view, and the channel that serves it (spec 00 Terms: channel k serves view k). -/
abbrev ViewId := Fin 8
/-- A buffer pool and its scanner (spec 02). -/
abbrev PoolId := Fin 4
/-- A lane of the sensor link (spec 04 R61). -/
abbrev LaneId := Fin 4
/-- A metadata bank (spec 05 Table 5-1). -/
abbrev BankId := Fin 2

end Sys2Proof
end

