-- ==== Sys2Proof/Syntax.lean ====
section
/-! DEFINITION. The commands of the part: one constructor per row of spec/opcode_table.json, with the operands each row's event
carries (log 1). -/

namespace Sys2Proof

/-- The answer to a read of `bits` bits: OK with the data, or ERROR (spec 00 Introduction). Byte k of the data stands in bits
8k+7 to 8k, as spec 11 R176 orders bytes. -/
inductive ReadAnswer (bits : Nat) where
  | ok (data : BitVec bits)
  | error
deriving DecidableEq, Repr

/-- The response to a write: OK or ERROR. -/
inductive WriteAnswer where
  | ok
  | error
deriving DecidableEq, Repr

/-- The answer to a compare-exchange on a slot word (spec 02 R26). -/
inductive CasAnswer where
  | exchanged
  | notExchanged
  | error
deriving DecidableEq, Repr

/-- Bytes that arrive on one lane in successive byte periods, oldest first, the first of them in period `arrival`
(spec 04 R62). -/
structure LaneRun where
  bytes : List Byte
  arrival : Nat
deriving DecidableEq, Repr

/-- What arrives on each lane up to an event. Lanes not in use are ignored (spec 04 R61). -/
abbrev LaneRuns := Vector LaneRun 4

/-- A step of the memory path that the part takes between two row notices of one event, each the step of the row of the table it is
named after. Answers that send the run to FAULT are not among them (spec 07 R126, 09 R153; log 26). -/
inductive MemoryStep where
  | admission
  | rowWriteResponse (tag : Nat) (answer : WriteAnswer)
  | metadataCopyResponse (tag : Nat) (answer : WriteAnswer)
  /-- Answered OK. -/
  | frameRecordResponse (tag : Nat)
  /-- Answered OK. -/
  | viewTallyResponse (tag : Nat)
  /-- Answered OK. -/
  | linkTallyResponse (tag : Nat)
  /-- Answered OK. -/
  | adoptionWordResponse (tag : Nat)
  | claimServiceStart (pool : PoolId)
  | slotReadAnswer (tag : Nat) (answer : ReadAnswer 128)
  | claimAnswer (tag : Nat) (answer : CasAnswer)
  | refusalAnswer (tag : Nat) (answer : CasAnswer)
  | firstWriteAnswer (tag : Nat) (exchanged : Bool)
  | returnAnswer (tag : Nat) (exchanged : Bool)
  | sealingAnswer (tag : Nat) (exchanged : Bool)
  | sealingEntry (view : ViewId)
deriving DecidableEq, Repr

/-- A step of the memory path, and the row before whose notice the part takes it (log 26). -/
structure NoticeStep where
  row : Nat
  step : MemoryStep
deriving DecidableEq, Repr

/-- What comes with the last byte of a packet: the bytes of the lanes, and the steps of the memory path taken between the row notices
of the event (spec 07 R126). -/
structure PacketEnd where
  runs : LaneRuns
  between : List NoticeStep
deriving DecidableEq, Repr

/-- The commands. A `tag` names the transaction an answer belongs to (log 2); `run` and `runs` are the bytes the lanes carry up to
the event (log 6). -/
inductive Instr where
  /-- RUN written with code 1 (R164). -/
  | start
  /-- RUN written with code 2 (R167). -/
  | stop
  /-- RUN written with code 3 (R168). -/
  | abort
  /-- RUN written with code 4 (R171). -/
  | clearFault
  /-- RUN written with code 5 (R175). -/
  | reset
  /-- RUN written with another value (R163). -/
  | unknownCode (code : Word)
  /-- ATTENTION written (R173). -/
  | attention (value : Word)
  /-- ATTENTION_ENABLE written (R174). -/
  | attentionEnable (value : Word)
  /-- ANCHOR_LO written (R162). -/
  | anchorLo (value : Word)
  /-- ANCHOR_HI written (R162). -/
  | anchorHi (value : Word)
  /-- A write of `width` bytes that the register window ignores (R160). -/
  | ignoredRegisterWrite (offset : Nat) (width : Nat) (value : DWord)
  /-- The power-on reset input (R175). -/
  | powerOnReset
  /-- The port's reset (R175). -/
  | portReset
  /-- A lane carries the alignment word while the receiver searches (R69). -/
  | alignmentWordMatch (lane : LaneId) (run : LaneRun)
  /-- A header arrived in VERIFY (R70). -/
  | verifyHeader (runs : LaneRuns)
  /-- A boundary reached in VERIFY (R70). -/
  | verifyBoundary (runs : LaneRuns)
  /-- The extent of the third header that passed ends (R70): its bytes came with VERIFY_HEADER, or later (log 6). -/
  | verifyExtentEnd
  /-- A trusted boundary reached in LOCKED (R74). -/
  | lockedBoundary (runs : LaneRuns)
  /-- A header arrived in LOCKED (R72). -/
  | lockedHeader (runs : LaneRuns)
  /-- The search after a failed header check goes on to the next boundary (R72). -/
  | boundarySearch (runs : LaneRuns)
  /-- The last byte of an accepted packet arrives (R71). -/
  | packetComplete (last : PacketEnd)
  /-- The timebase reaches the armed gap deadline (R92). -/
  | gapTimeout
  /-- Answer to the link word read (R164). -/
  | linkWordAnswer (tag : Nat) (answer : ReadAnswer 32)
  /-- Answer to the pool table read (R5). -/
  | poolTableAnswer (tag : Nat) (answer : ReadAnswer 512)
  /-- Answer to the selector read of START (R48). -/
  | startSelectorAnswer (tag : Nat) (answer : ReadAnswer 64)
  /-- Answer to the page read of START (R48). -/
  | startPageAnswer (tag : Nat) (answer : ReadAnswer 8192)
  /-- Answer to a running selector read (R51). -/
  | selectorAnswer (tag : Nat) (answer : ReadAnswer 64)
  /-- Answer to a running page read (R52). -/
  | pageAnswer (tag : Nat) (answer : ReadAnswer 8192)
  /-- Response to an adoption word write (R47). -/
  | adoptionWordResponse (tag : Nat) (answer : WriteAnswer)
  /-- Response to a link tally write (R95). -/
  | linkTallyResponse (tag : Nat) (answer : WriteAnswer)
  /-- A waiting scanner takes its oldest request (R40). -/
  | claimServiceStart (pool : PoolId)
  /-- Answer to a slot record read (R41). -/
  | slotReadAnswer (tag : Nat) (answer : ReadAnswer 128)
  /-- Answer to a claim compare-exchange (R42). -/
  | claimAnswer (tag : Nat) (answer : CasAnswer)
  /-- Answer to a refusal compare-exchange (R29). -/
  | refusalAnswer (tag : Nat) (answer : CasAnswer)
  /-- Answer to a first-write compare-exchange (R103). -/
  | firstWriteAnswer (tag : Nat) (answer : CasAnswer)
  /-- Answer to a return compare-exchange (R108). -/
  | returnAnswer (tag : Nat) (answer : CasAnswer)
  /-- The arbiter admits a write (R153). -/
  | admission
  /-- Response to a row transaction (R155). -/
  | rowWriteResponse (tag : Nat) (answer : WriteAnswer)
  /-- Response to a metadata copy (R156). -/
  | metadataCopyResponse (tag : Nat) (answer : WriteAnswer)
  /-- A FLUSHING channel enters SEALING (R106). -/
  | sealingEntry (view : ViewId)
  /-- Response to a frame record write (R107). -/
  | frameRecordResponse (tag : Nat) (answer : WriteAnswer)
  /-- Answer to a sealing compare-exchange (R107). -/
  | sealingAnswer (tag : Nat) (answer : CasAnswer)
  /-- Response to a view tally write (R109). -/
  | viewTallyResponse (tag : Nat) (answer : WriteAnswer)
  /-- A stopping or aborting run that is quiet enters STOPPED (R169). -/
  | runStopped
deriving DecidableEq, Repr

end Sys2Proof
end

