-- ==== Sys2Proof/Config.lean ====
section
/-! DEFINITION. The fixed sizes of the part. The spec leaves no value free, so no constant here is opaque. -/

namespace Sys2Proof.Config

/-- Most write transactions outstanding at once (spec 09 R151). -/
def writeQueueSize : Nat := 32
/-- Blocks of line memory (spec 09 R146). -/
def lineBlocks : Nat := 512
/-- Bytes of a line block (spec 09 R146). -/
def lineBlockBytes : Nat := 256
/-- Staging places of a channel (spec 09 R148). -/
def stagingPlaces : Nat := 2
/-- Largest row transaction in bytes (spec 09 R150). -/
def transactionBytes : Nat := 4096
/-- Largest content of a metadata bank in bytes (spec 05 R86). -/
def bankBytes : Nat := 4096
/-- META_ROWs accepted in one frame (spec 05 R86). -/
def metaRows : Nat := 4
/-- The skew allowance in byte periods (spec 04 R62). -/
def skewAllowance : Nat := 16
/-- Headers that must pass in VERIFY (spec 04 R70). -/
def verifyHeaders : Nat := 3
/-- Consecutive bad headers that end the lock (spec 04 R72). -/
def badHeaderLimit : Nat := 2
/-- Longest PIXEL_ROW payload accepted out of frame: 8192 pixels at 14 bits (spec 04 R65). -/
def longestRow : Nat := 14336
/-- Most slots in a pool (spec 01 R5). -/
def poolSlots : Nat := 64

end Sys2Proof.Config
end

