-- ==== Sys2Proof/Machine/State.lean ====
section
/-! DEFINITION. The state of the part, block by block (spec 00 Block Overview), as plain data, and its value after power-on reset. -/

namespace Sys2Proof.Machine

/-- Run states, coded as in spec 10 Table 10-3. -/
inductive RunState where
  | stopped
  | starting
  | running
  | stopping
  | aborting
  | fault
deriving DecidableEq, Repr

/-- Last command results (spec 10 Table 10-4). -/
inductive CommandResult where
  | none
  | accepted
  | started
  | startFailed
  | refusedState
  | refusedCode
  | refusedAnchor
  | busy
deriving DecidableEq, Repr

/-- What the START sequence waits for (spec 10 R164, R165; log 15). -/
inductive StartProgress where
  /-- No START in progress. -/
  | none
  /-- The link word read. -/
  | linkWord
  /-- The pool table read. -/
  | poolTable
  /-- The plan unit's selector or page read. -/
  | plan
  /-- The adoption word write that reports the first plan in place. -/
  | adopted
  /-- The adoption word write that reports the failure. -/
  | failed
deriving DecidableEq, Repr

/-- A present pool: slot array address and slot count (spec 01 R5, R6). -/
structure PoolDefinition where
  address : DWord
  count : Nat
deriving DecidableEq, Repr

/-- The run controller (spec 10). -/
structure RunControl where
  state : RunState
  result : CommandResult
  /-- ANCHOR (R162). -/
  anchor : DWord
  progress : StartProgress
  /-- Lane count L read from the link word (R4). -/
  lanesRead : Nat
  /-- Pool definitions of the run (R6); `none` where the pool is absent. -/
  pools : Vector (Option PoolDefinition) 4
deriving DecidableEq, Repr

/-- The attention unit (spec 10 R173, R174). -/
structure Attention where
  flags : BitVec 14
  enables : BitVec 14
deriving DecidableEq, Repr

/-- Receiver states (spec 04 Table 4-3). -/
inductive ReceiverState where
  | off
  | hunt
  | verify
  | locked
deriving DecidableEq, Repr

/-- What the receiver waits for in VERIFY and LOCKED (spec 04 R70 to R74). -/
inductive ReceiverPhase where
  /-- Nothing: OFF or HUNT. -/
  | idle
  /-- The header that follows a boundary. -/
  | header
  /-- The end of a trusted extent, and the boundary there. -/
  | boundary
  /-- Payload and trailer of an accepted packet. -/
  | payload
  /-- The alignment word, after a header whose check failed. -/
  | search
deriving DecidableEq, Repr

/-- A byte a lane has delivered, and the byte period it arrived in (spec 04 R62). -/
structure LaneByte where
  value : Byte
  arrival : Nat
deriving DecidableEq, Repr

/-- The link receiver (spec 04). -/
structure Receiver where
  state : ReceiverState
  /-- Lanes in use: 0, 1, 2 or 4 (R76). -/
  lanes : Nat
  /-- Arrival of the alignment word most recently found on each lane (R69). -/
  positions : Vector (Option Nat) 4
  verifyCount : Nat
  /-- Consecutive bad-header count (R72). -/
  badCount : Nat
  phase : ReceiverPhase
  /-- Header of the packet in progress, byte 0 in bits 7 to 0; its extent follows from it (R63). -/
  packet : Option (BitVec 64)
  /-- Bytes each lane has delivered and no event has taken yet, oldest first: those of the packet in progress, and those of earlier
  lanes held until the later lanes deliver the matching bytes (R62, section 4.4). -/
  held : Vector (List LaneByte) 4
  headerErrors : Word
  lengthErrors : Word
  checkErrors : Word
  lockLosses : Word
deriving DecidableEq, Repr

/-- Tracker states (spec 05 Table 5-1). -/
inductive TrackerState where
  | idle
  | header
  | body
deriving DecidableEq, Repr

/-- A metadata bank (spec 05 R86); its byte count is the length of `bytes`. -/
structure Bank where
  bytes : List Byte
  rows : Nat
  truncated : Bool
deriving DecidableEq, Repr

/-- The frame tracker (spec 05 Table 5-1). Its link tally request is its place in the write queue's lists. -/
structure Tracker where
  state : TrackerState
  frameNumber : Half
  width : Half
  height : Half
  depth : Byte
  /-- Lowest row not yet resolved, 0 to 65535 (R88). -/
  nextRow : Nat
  /-- `none` while disarmed (R92). -/
  deadline : Option DWord
  gapLimit : Word
  startTime : DWord
  banks : Vector Bank 2
  currentBank : BankId
  framesStarted : Word
  framesEnded : Word
  framesTruncated : Word
  orderErrors : Word
  strayPackets : Word
  gapTimeouts : Word
deriving DecidableEq, Repr

/-- A view descriptor as read: its 64 bytes, byte k in bits 8k+7 to 8k (spec 01 R22, 11 Table 11-7). -/
structure Descriptor where
  raw : BitVec 512
deriving DecidableEq, Repr

/-- Derived sizes of a view (spec 01 Table 1-4). -/
structure Sizes where
  /-- W_out. -/
  outWidth : Nat
  /-- H_out. -/
  outHeight : Nat
  /-- B_out. -/
  pixelBytes : Nat
  stride : Nat
  metadataArea : Nat
  neededBytes : Nat
  accumulatorBlocks : Nat
  stagingBlocks : Nat
deriving DecidableEq, Repr

/-- A plan record (spec 01 R22). `sizes` holds the derived sizes of each enabled view. -/
structure Plan where
  sequence : Word
  mask : Byte
  width : Half
  height : Half
  /-- Din. -/
  depth : Byte
  /-- Mosaic period P. -/
  period : Byte
  gapLimit : Word
  views : Vector Descriptor 8
  sizes : Vector (Option Sizes) 8
deriving DecidableEq, Repr

/-- Plan rejection and START failure reasons (spec 01 Table 1-5). -/
inductive Reason where
  | none
  | tornPage
  | readError
  | badHeader
  | badView
  | badPool
  | lineMemory
  | badLinkWord
  | badPoolTable
deriving DecidableEq, Repr

/-- Fetch states of the plan unit (spec 03 R46). -/
inductive FetchState where
  | quiet
  | selector
  | page
deriving DecidableEq, Repr

/-- The two words of a selector read (spec 01 R3). -/
structure Selector where
  sequence : Word
  page : Word
deriving DecidableEq, Repr

/-- The report values of the plan unit (spec 03 Table 3-2). -/
structure Report where
  adoptedSequence : Word
  adoptionFrame : Word
  rejectedSequence : Word
  reason : Reason
  rejectedView : Byte
  deferrals : Word
  transients : Word
  discards : Word
deriving DecidableEq, Repr

/-- The plan unit (spec 03 Table 3-1). -/
structure PlanUnit where
  adopted : Option Plan
  candidate : Option Plan
  fetch : FetchState
  selector : Option Selector
  discard : Bool
  remembered : Option Word
  report : Report
deriving DecidableEq, Repr

/-- Pool states (spec 02 section 2.4). -/
inductive PoolState where
  | ready
  | faulted
deriving DecidableEq, Repr

/-- A claim request (spec 02 R39). -/
structure ClaimRequest where
  view : ViewId
  needed : Nat
  tag : Half
deriving DecidableEq, Repr

/-- The claim in service (spec 02 section 2.4): the slot being visited, the slots visited before it, and the record read
from it once its read is answered. -/
structure ClaimService where
  request : ClaimRequest
  index : Nat
  visited : Nat
  slot : Option (BitVec 128)
deriving DecidableEq, Repr

/-- A pool scanner (spec 02 section 2.4). -/
structure Scanner where
  definition : Option PoolDefinition
  cursor : Nat
  state : PoolState
  queue : List ClaimRequest
  service : Option ClaimService
deriving DecidableEq, Repr

/-- Channel states (spec 06 Table 6-1). -/
inductive ChannelState where
  | idle
  | claiming
  | active
  | flushing
  | sealing
  | returning
deriving DecidableEq, Repr

/-- Outcome classes (spec 06 Table 6-4). -/
inductive OutcomeClass where
  | none
  | delivered
  | torn
  | returned
  | skipped
  | lost
deriving DecidableEq, Repr

/-- Outcome causes (spec 06 Table 6-4). -/
inductive OutcomeCause where
  | none
  | complete
  | rowLoss
  | truncated
  | gapTimeout
  | linkLost
  | overrun
  | busError
  | aborted
  | lateBuffer
  | starved
  | poolFault
  | formatMismatch
  | busy
  | adopting
  | stolen
deriving DecidableEq, Repr

/-- A slot held by a channel (spec 06 R98): `word` is the slot word the channel expects in memory (spec 02 R25). -/
structure Slot where
  pool : PoolId
  index : Nat
  address : DWord
  capacity : Word
  word : Word
deriving DecidableEq, Repr

/-- Progress of the first-write compare-exchange (spec 06 R103). -/
inductive FirstWrite where
  | notIssued
  | outstanding
  | exchanged
deriving DecidableEq, Repr

/-- Progress of the metadata copy (spec 08 R142, R143): not due; due and not asked for; waiting for admission; admitted;
answered. -/
inductive CopyProgress where
  | notDue
  | due
  | waiting
  | outstanding
  | answered
deriving DecidableEq, Repr

/-- Progress of one row transaction (spec 09 R148, R155, R158). -/
inductive TransactionState where
  | waiting
  | outstanding
  | ok
  | failed
  | withdrawn
deriving DecidableEq, Repr

/-- One output row in a staging place: its number, packed bytes and transactions (spec 09 R148, R150). -/
structure StagedRow where
  number : Nat
  bytes : List Byte
  transactions : List TransactionState
deriving DecidableEq, Repr

/-- A cell-row in a staging place (spec 09 R148). -/
structure CellRow where
  rows : List StagedRow
deriving DecidableEq, Repr

/-- The record of a view frame (spec 06 R98, 07 R119). -/
structure ViewFrame where
  frameNumber : Half
  startTime : DWord
  planSequence : Word
  bank : BankId
  descriptor : Descriptor
  sizes : Sizes
  /-- P of the plan record. -/
  period : Nat
  /-- Din of the plan record. -/
  depth : Nat
  /-- A claim request is queued or in service. -/
  claimInFlight : Bool
  slot : Option Slot
  firstWrite : FirstWrite
  windowComplete : Bool
  /-- The cause of the abandonment, if the view frame is abandoned. -/
  abandoned : Option OutcomeCause
  endTime : DWord
  copy : CopyProgress
  copyLength : Nat
  metadataBytes : Nat
  metaTruncated : Bool
  metaLost : Bool
  missingRows : Nat
  holeRows : Nat
  saturated : Word
  rowsWritten : Nat
  /-- Group in progress (R119). -/
  group : Nat
  /-- One accumulator row for each phase (R119). -/
  accumulator : List (List Word)
  /-- One present-weight sum for each phase (R119). -/
  present : List Nat
  /-- Staged cell-rows, oldest first (spec 09 R148). -/
  staging : List CellRow
  /-- The closing step is taken and its tally write asked for (R109). -/
  closing : Bool
deriving DecidableEq, Repr

/-- A view tally (spec 06 R112). -/
structure Tally where
  delivered : Word
  torn : Word
  returned : Word
  skipped : Word
  lost : Word
  lastFrame : Half
  lastClass : OutcomeClass
  lastCause : OutcomeCause
deriving DecidableEq, Repr

/-- A view channel (spec 06). -/
structure Channel where
  state : ChannelState
  frame : Option ViewFrame
  tally : Tally
deriving DecidableEq, Repr

/-- A view's share of line memory: accumulator region, then staging region (spec 09 R146). -/
structure Allocation where
  first : Nat
  accumulatorBlocks : Nat
  stagingBlocks : Nat
deriving DecidableEq, Repr

/-- Owner and kind of a write (spec 09 R151, Table 9-1). A view tally's entry says whether it is the one of the channel's
closing step (spec 06 R109). -/
inductive WriteRole where
  | row (view : ViewId) (row : Nat) (index : Nat)
  | metadataCopy (view : ViewId) (frameNumber : Half)
  | frameRecord (view : ViewId)
  | viewTally (view : ViewId) (closing : Bool)
  | linkTally
  | adoptionWord
deriving DecidableEq, Repr

/-- An entry of the write queue, with the write issued on the port. -/
structure WriteEntry where
  tag : Nat
  role : WriteRole
  address : DWord
  data : List Byte
deriving DecidableEq, Repr

/-- A bookkeeping write asked for and not yet admitted (spec 09 R152). A frame record carries its bytes, composed on entry to
SEALING (spec 11 R177); the others are composed at admission. -/
inductive Request where
  | metadataCopy (view : ViewId)
  | frameRecord (view : ViewId) (bytes : List Byte)
  | viewTally (view : ViewId)
  | linkTally
  | adoptionWord
deriving DecidableEq, Repr

/-- The write queue and its arbiter (spec 09). -/
structure WriteQueue where
  /-- Admitted and not answered (R151). -/
  entries : List WriteEntry
  /-- The bookkeeping request order, oldest first (R152). -/
  requests : List Request
  /-- Round-robin pointer (R154). -/
  pointer : ViewId
deriving DecidableEq, Repr

/-- Owner and kind of a read or compare-exchange on the system port. -/
inductive PortRole where
  | linkWord
  | poolTable
  | startSelector
  | startPage
  | selector
  | page
  | slotRead (pool : PoolId)
  | claim (pool : PoolId)
  | refusal (pool : PoolId)
  | firstWrite (view : ViewId)
  | giveBack (view : ViewId)
  | sealing (view : ViewId)
deriving DecidableEq, Repr

/-- What a port transaction asks of memory. -/
inductive PortAccess where
  | read (address : DWord) (bytes : Nat)
  | compareExchange (address : DWord) (expected : Word) (new : Word)
deriving DecidableEq, Repr

/-- An outstanding read or compare-exchange. -/
structure PortEntry where
  tag : Nat
  role : PortRole
  access : PortAccess
deriving DecidableEq, Repr

/-- The manager side of the system port: outstanding reads and compare-exchanges (spec 10 R172), and the tag of the next
transaction of any kind, the model's own count (log 2). -/
structure Port where
  entries : List PortEntry
  nextTag : Nat
deriving DecidableEq, Repr

/-- The part, and the queue of commands that wait for it. -/
structure State where
  run : RunControl
  attention : Attention
  /-- Microseconds (spec 05 R80). -/
  timebase : DWord
  receiver : Receiver
  tracker : Tracker
  plan : PlanUnit
  scanners : Vector Scanner 4
  channels : Vector Channel 8
  /-- Line memory allocations (spec 09 R146). -/
  allocations : Vector Allocation 8
  queue : WriteQueue
  port : Port
  /-- Commands waiting, first in, first out. -/
  pending : List Instr
deriving DecidableEq, Repr

/-- Why a step can fault: never. The spec gives every command an effect in every state. -/
inductive Fault where
deriving DecidableEq, Repr

/-- Why a command can be refused. -/
inductive Refusal where
  /-- Raised by an arm of `exec` whose command has no meaning yet; no arm is such. Safe: the model stops. -/
  | notModelled (mnemonic : String)
deriving DecidableEq, Repr

/-- Run controller after power-on reset (spec 10 Table 10-7). -/
def RunControl.initial : RunControl :=
  { state := .stopped, result := .none, anchor := 0, progress := .none, lanesRead := 0,
    pools := #v[none, none, none, none] }

/-- Receiver after any reset (spec 04 R78). -/
def Receiver.initial : Receiver :=
  { state := .off, lanes := 0, positions := #v[none, none, none, none], verifyCount := 0, badCount := 0, phase := .idle,
    packet := none, held := #v[[], [], [], []], headerErrors := 0, lengthErrors := 0, checkErrors := 0, lockLosses := 0 }

/-- An empty metadata bank (spec 05 R81). -/
def Bank.empty : Bank := { bytes := [], rows := 0, truncated := false }

/-- Tracker after any reset (spec 05 R97): current bank 1, so that the first frame uses bank 0. -/
def Tracker.initial : Tracker :=
  { state := .idle, frameNumber := 0, width := 0, height := 0, depth := 0, nextRow := 0, deadline := none, gapLimit := 0,
    startTime := 0, banks := #v[Bank.empty, Bank.empty], currentBank := 1, framesStarted := 0, framesEnded := 0,
    framesTruncated := 0, orderErrors := 0, strayPackets := 0, gapTimeouts := 0 }

/-- Report values after any reset (spec 03 R60). -/
def Report.initial : Report :=
  { adoptedSequence := 0, adoptionFrame := 0, rejectedSequence := 0, reason := .none, rejectedView := 0xFF, deferrals := 0,
    transients := 0, discards := 0 }

/-- Plan unit after any reset (spec 03 R60). -/
def PlanUnit.initial : PlanUnit :=
  { adopted := none, candidate := none, fetch := .quiet, selector := none, discard := false, remembered := none,
    report := Report.initial }

/-- Scanner after any reset (spec 02 R38). -/
def Scanner.initial : Scanner :=
  { definition := none, cursor := 0, state := .ready, queue := [], service := none }

/-- Tally after any reset (spec 06 R112). -/
def Tally.initial : Tally :=
  { delivered := 0, torn := 0, returned := 0, skipped := 0, lost := 0, lastFrame := 0, lastClass := .none,
    lastCause := .none }

/-- Channel after any reset (spec 06 R116). -/
def Channel.initial : Channel := { state := .idle, frame := none, tally := Tally.initial }

/-- An allocation of 0 blocks (spec 09 R147). Its first block is the model's choice, 0: the spec gives none, and nothing uses it
(log 25). -/
def Allocation.empty : Allocation := { first := 0, accumulatorBlocks := 0, stagingBlocks := 0 }

/-- Write queue after any reset (spec 09 R159). -/
def WriteQueue.initial : WriteQueue := { entries := [], requests := [], pointer := 0 }

/-- The part right after power-on reset (spec 10 R175), with an empty queue of commands. -/
def State.reset : State :=
  { run := RunControl.initial
    attention := { flags := 0, enables := 0 }
    timebase := 0
    receiver := Receiver.initial
    tracker := Tracker.initial
    plan := PlanUnit.initial
    scanners := Vector.replicate 4 Scanner.initial
    channels := Vector.replicate 8 Channel.initial
    allocations := Vector.replicate 8 Allocation.empty
    queue := WriteQueue.initial
    port := { entries := [], nextTag := 0 }
    pending := [] }

end Sys2Proof.Machine
end

