-- ==== Sys2Proof/Machine/Ownership.lean ====
section
/-! DEFINITION. Which transaction an answer command speaks of: its owner, if the role is of that kind (spec 10 R172). -/

namespace Sys2Proof.Machine

/-- A linkWord read. -/
def PortRole.asLinkWord (r : PortRole) : Option Unit := if r = .linkWord then some () else none

/-- A poolTable read. -/
def PortRole.asPoolTable (r : PortRole) : Option Unit := if r = .poolTable then some () else none

/-- A startSelector read. -/
def PortRole.asStartSelector (r : PortRole) : Option Unit := if r = .startSelector then some () else none

/-- A startPage read. -/
def PortRole.asStartPage (r : PortRole) : Option Unit := if r = .startPage then some () else none

/-- A selector read. -/
def PortRole.asSelector (r : PortRole) : Option Unit := if r = .selector then some () else none

/-- A page read. -/
def PortRole.asPage (r : PortRole) : Option Unit := if r = .page then some () else none

/-- The owner of a slot record read. -/
def PortRole.asSlotRead : PortRole → Option PoolId
  | .slotRead x => some x
  | .linkWord | .poolTable | .startSelector | .startPage | .selector | .page
  | .claim _ | .refusal _ | .firstWrite _ | .giveBack _ | .sealing _ => none

/-- The owner of a claim compare-exchange. -/
def PortRole.asClaim : PortRole → Option PoolId
  | .claim x => some x
  | .linkWord | .poolTable | .startSelector | .startPage | .selector | .page
  | .slotRead _ | .refusal _ | .firstWrite _ | .giveBack _ | .sealing _ => none

/-- The owner of a refusal compare-exchange. -/
def PortRole.asRefusal : PortRole → Option PoolId
  | .refusal x => some x
  | .linkWord | .poolTable | .startSelector | .startPage | .selector | .page
  | .slotRead _ | .claim _ | .firstWrite _ | .giveBack _ | .sealing _ => none

/-- The owner of a first-write compare-exchange. -/
def PortRole.asFirstWrite : PortRole → Option ViewId
  | .firstWrite x => some x
  | .linkWord | .poolTable | .startSelector | .startPage | .selector | .page
  | .slotRead _ | .claim _ | .refusal _ | .giveBack _ | .sealing _ => none

/-- The owner of a return compare-exchange. -/
def PortRole.asGiveBack : PortRole → Option ViewId
  | .giveBack x => some x
  | .linkWord | .poolTable | .startSelector | .startPage | .selector | .page
  | .slotRead _ | .claim _ | .refusal _ | .firstWrite _ | .sealing _ => none

/-- The owner of a sealing compare-exchange. -/
def PortRole.asSealing : PortRole → Option ViewId
  | .sealing x => some x
  | .linkWord | .poolTable | .startSelector | .startPage | .selector | .page
  | .slotRead _ | .claim _ | .refusal _ | .firstWrite _ | .giveBack _ => none

/-- Owner and particulars of a row write. -/
def WriteRole.asRow : WriteRole → Option (ViewId × Nat × Nat)
  | .row a b c => some (a, b, c)
  | .metadataCopy _ _ | .frameRecord _ | .viewTally _ _ | .linkTally | .adoptionWord => none

/-- Owner and particulars of a metadataCopy write. -/
def WriteRole.asMetadataCopy : WriteRole → Option (ViewId × Half)
  | .metadataCopy a b => some (a, b)
  | .row _ _ _ | .frameRecord _ | .viewTally _ _ | .linkTally | .adoptionWord => none

/-- Owner and particulars of a frameRecord write. -/
def WriteRole.asFrameRecord : WriteRole → Option (ViewId)
  | .frameRecord a => some a
  | .row _ _ _ | .metadataCopy _ _ | .viewTally _ _ | .linkTally | .adoptionWord => none

/-- Owner and particulars of a viewTally write. -/
def WriteRole.asViewTally : WriteRole → Option (ViewId × Bool)
  | .viewTally a b => some (a, b)
  | .row _ _ _ | .metadataCopy _ _ | .frameRecord _ | .linkTally | .adoptionWord => none

/-- Owner and particulars of a linkTally write. -/
def WriteRole.asLinkTally : WriteRole → Option (Unit)
  | .linkTally => some ()
  | .row _ _ _ | .metadataCopy _ _ | .frameRecord _ | .viewTally _ _ | .adoptionWord => none

/-- Owner and particulars of a adoptionWord write. -/
def WriteRole.asAdoptionWord : WriteRole → Option (Unit)
  | .adoptionWord => some ()
  | .row _ _ _ | .metadataCopy _ _ | .frameRecord _ | .viewTally _ _ | .linkTally => none

end Sys2Proof.Machine
end

