-- ==== Sys2Proof/Machine/Flags.lean ====
section
/-! DEFINITION. Every flag of the part: the attention flags and enables with the interrupt line (spec 10 section 10.6), and the
codes the spec gives to states, results, classes, causes and reasons. -/

namespace Sys2Proof.Machine

/-- Attention causes (spec 10 Table 10-6). -/
inductive AttentionCause where
  | frameFilled
  | frameTorn
  | frameSkipped
  | slotRefused
  | slotStolen
  | poolFault
  | planAdopted
  | planRejected
  | adoptionDeferred
  | linkLocked
  | linkLost
  | formatMismatch
  | runStopped
  | fault
deriving DecidableEq, Repr

/-- Bit of a cause in ATTENTION (spec 10 Table 10-6). -/
def AttentionCause.bit : AttentionCause → Nat
  | .frameFilled => 0
  | .frameTorn => 1
  | .frameSkipped => 2
  | .slotRefused => 3
  | .slotStolen => 4
  | .poolFault => 5
  | .planAdopted => 6
  | .planRejected => 7
  | .adoptionDeferred => 8
  | .linkLocked => 9
  | .linkLost => 10
  | .formatMismatch => 11
  | .runStopped => 12
  | .fault => 13

/-- The flag word of one cause. -/
def AttentionCause.mask (c : AttentionCause) : BitVec 14 := BitVec.ofNat 14 (2 ^ c.bit)

/-- A cause is raised: its flag is set, whatever its enable (spec 10 R173). -/
def State.raise (s : State) (c : AttentionCause) : State :=
  { s with attention := { s.attention with flags := s.attention.flags ||| c.mask } }

/-- The flag of a cause is set. -/
def State.flagged (s : State) (c : AttentionCause) : Bool := s.attention.flags &&& c.mask != 0

/-- A write to ATTENTION clears each flag whose written bit is 1 (spec 10 R173). -/
def State.clearFlags (s : State) (value : Word) : State :=
  { s with attention := { s.attention with flags := s.attention.flags &&& ~~~(value.extractLsb' 0 14) } }

/-- A write to ATTENTION_ENABLE replaces all fourteen enables (spec 10 R174). -/
def State.setEnables (s : State) (value : Word) : State :=
  { s with attention := { s.attention with enables := value.extractLsb' 0 14 } }

/-- The interrupt line: asserted exactly when some flag and its enable are both set (spec 10 R174; log 17). -/
def State.interruptLine (s : State) : Bool := s.attention.flags &&& s.attention.enables != 0

/-- Code of a run state in RUN (spec 10 Table 10-3). -/
def RunState.code : RunState → Nat
  | .stopped => 0
  | .starting => 1
  | .running => 2
  | .stopping => 3
  | .aborting => 4
  | .fault => 5

/-- Code of a command result in RUN (spec 10 Table 10-4). -/
def CommandResult.code : CommandResult → Nat
  | .none => 0
  | .accepted => 1
  | .started => 2
  | .startFailed => 3
  | .refusedState => 4
  | .refusedCode => 5
  | .refusedAnchor => 6
  | .busy => 7

/-- Code of a receiver state in LINK_STATUS (spec 10 Table 10-2). -/
def ReceiverState.code : ReceiverState → Nat
  | .off => 0
  | .hunt => 1
  | .verify => 2
  | .locked => 3

/-- Code of a rejection reason (spec 01 Table 1-5). -/
def Reason.code : Reason → Nat
  | .none => 0
  | .tornPage => 1
  | .readError => 2
  | .badHeader => 3
  | .badView => 4
  | .badPool => 5
  | .lineMemory => 6
  | .badLinkWord => 7
  | .badPoolTable => 8

/-- A definitive reason (spec 01 Table 1-5). -/
def Reason.definitive : Reason → Bool
  | .badHeader | .badView | .badPool | .lineMemory => true
  | .none | .tornPage | .readError | .badLinkWord | .badPoolTable => false

/-- A transient reason (spec 01 Table 1-5). -/
def Reason.transient : Reason → Bool
  | .tornPage | .readError => true
  | .none | .badHeader | .badView | .badPool | .lineMemory | .badLinkWord | .badPoolTable => false

/-- Code of an outcome class (spec 06 Table 6-4). -/
def OutcomeClass.code : OutcomeClass → Nat
  | .none => 0
  | .delivered => 1
  | .torn => 2
  | .returned => 3
  | .skipped => 4
  | .lost => 5

/-- Code of an outcome cause (spec 06 Table 6-4). -/
def OutcomeCause.code : OutcomeCause → Nat
  | .none => 0
  | .complete => 1
  | .rowLoss => 2
  | .truncated => 3
  | .gapTimeout => 4
  | .linkLost => 5
  | .overrun => 6
  | .busError => 7
  | .aborted => 8
  | .lateBuffer => 9
  | .starved => 10
  | .poolFault => 11
  | .formatMismatch => 12
  | .busy => 13
  | .adopting => 14
  | .stolen => 15

/-- Flags of a frame record (spec 11 Table 11-11). -/
def ViewFrame.flagBits (v : ViewFrame) : Nat :=
  (if 0 < v.holeRows then 1 else 0) + (if v.metaTruncated then 2 else 0) + (if v.metaLost then 4 else 0)
    + (if v.saturated = 0 then 0 else 8)

end Sys2Proof.Machine
end

