-- ==== Sys2Proof/Machine/Operands.lean ====
section
/-! DEFINITION. The records the part reads and writes, field by field (spec 11), the link's byte and bit orders (spec 04), and the
two check codes. -/

namespace Sys2Proof.Machine

/-- The little-endian field of `bytes` bytes at byte `offset` of a record (spec 11 R176). -/
def fieldAt (x : BitVec n) (offset bytes : Nat) : Nat := (x.extractLsb' (8 * offset) (8 * bytes)).toNat

/-- The `count` low bytes of a value, least significant first (spec 11 R176). -/
def leBytes (count : Nat) (value : Nat) : List Byte :=
  (List.range count).map fun i => BitVec.ofNat 8 (value >>> (8 * i))

/-- The value of bytes taken least significant first. -/
def leValue (bytes : List Byte) : Nat := bytes.foldr (fun b rest => b.toNat + 256 * rest) 0

/-- The least multiple of `m` that is at least `n`. -/
def roundUp (n m : Nat) : Nat := (n + m - 1) / m * m

/-- n / m, rounded up. -/
def ceilDiv (n m : Nat) : Nat := (n + m - 1) / m

/-! ### View descriptor (spec 11 Table 11-7) -/

def Descriptor.rowStart (d : Descriptor) : Nat := fieldAt d.raw 0x00 2
def Descriptor.rowCount (d : Descriptor) : Nat := fieldAt d.raw 0x02 2
def Descriptor.columnStart (d : Descriptor) : Nat := fieldAt d.raw 0x04 2
def Descriptor.columnCount (d : Descriptor) : Nat := fieldAt d.raw 0x06 2
/-- n_v. -/
def Descriptor.cellsV (d : Descriptor) : Nat := fieldAt d.raw 0x08 1
/-- n_h. -/
def Descriptor.cellsH (d : Descriptor) : Nat := fieldAt d.raw 0x09 1
def Descriptor.blackOffset (d : Descriptor) : Nat := fieldAt d.raw 0x0A 2
def Descriptor.gain (d : Descriptor) : Nat := fieldAt d.raw 0x0C 2
/-- Dout. -/
def Descriptor.outDepth (d : Descriptor) : Nat := fieldAt d.raw 0x0E 1
def Descriptor.pool (d : Descriptor) : Nat := fieldAt d.raw 0x0F 1
/-- 0 REWEIGHT, 1 ABANDON. -/
def Descriptor.policy (d : Descriptor) : Nat := fieldAt d.raw 0x10 1
def Descriptor.notify (d : Descriptor) : Nat := fieldAt d.raw 0x11 1
def Descriptor.every (d : Descriptor) : Nat := fieldAt d.raw 0x12 1
def Descriptor.phase (d : Descriptor) : Nat := fieldAt d.raw 0x13 1
def Descriptor.metadataLimit (d : Descriptor) : Nat := fieldAt d.raw 0x14 2
/-- Vertical weight at position j. -/
def Descriptor.weightV (d : Descriptor) (j : Nat) : Nat := fieldAt d.raw (0x20 + j) 1
/-- Horizontal weight at position j. -/
def Descriptor.weightH (d : Descriptor) (j : Nat) : Nat := fieldAt d.raw (0x30 + j) 1

/-- Sum of f over 0 to n - 1. -/
def sumBelow (n : Nat) (f : Nat → Nat) : Nat := ((List.range n).map f).sum

/-- Sum of the used vertical weights (spec 01 R12). -/
def Descriptor.sumV (d : Descriptor) : Nat := sumBelow d.cellsV d.weightV
/-- Sum of the used horizontal weights (spec 01 R12). -/
def Descriptor.sumH (d : Descriptor) : Nat := sumBelow d.cellsH d.weightH

/-- The pool a view draws from; validation keeps the field at 0 to 3 (spec 01 R15). -/
def Descriptor.poolId (d : Descriptor) : PoolId := Fin.ofNat 4 d.pool

/-! ### Slot record and slot word (spec 11 Tables 11-8 and 11-9) -/

/-- Slot word of a slot record. -/
def recordWord (r : BitVec 128) : Word := r.extractLsb' 0 32
/-- Capacity in bytes. -/
def recordCapacity (r : BitVec 128) : Word := r.extractLsb' 32 32
/-- Buffer address. -/
def recordAddress (r : BitVec 128) : DWord := r.extractLsb' 64 64

/-- State codes the part acts on or writes (spec 02 Table 2-1). -/
inductive SlotState where
  | held
  | offered
  | taken
  | filling
  | filled
  | torn
  | refused
deriving DecidableEq, Repr

def SlotState.code : SlotState → Byte
  | .held => 0x00
  | .offered => 0x01
  | .taken => 0x02
  | .filling => 0x03
  | .filled => 0x04
  | .torn => 0x05
  | .refused => 0x06

/-- The state a slot word names; a code above 06H is read as HELD (spec 02 R24). -/
def slotState (word : Word) : SlotState :=
  let code := word.extractLsb' 0 8
  if code = 0x01 then .offered else if code = 0x02 then .taken else if code = 0x03 then .filling
  else if code = 0x04 then .filled else if code = 0x05 then .torn else if code = 0x06 then .refused else .held

/-- A word built afresh at a claim or refusal: state, view id, 0 in bits 15:12, claim tag (spec 02 R24). -/
def freshSlotWord (state : SlotState) (view : ViewId) (tag : Half) : Word :=
  tag ++ (0 : BitVec 4) ++ BitVec.ofNat 4 view.val ++ state.code

/-- A later transition changes the state code alone (spec 02 R24). -/
def withSlotState (word : Word) (state : SlotState) : Word := word.extractLsb' 8 24 ++ state.code

/-! ### The link (spec 04) -/

/-- The alignment word (R62). -/
def alignmentWord : List Byte := [0x5A, 0xC3, 0x3C, 0xA5]

/-- The bytes of each lane, oldest first (R61). -/
abbrev LaneBytes := Vector (List Byte) 4

/-- Byte i of a striped run over L lanes travels on lane i mod L (R61). -/
def stripedByte (lanes : Nat) (bytes : LaneBytes) (i : Nat) : Option Byte :=
  let lane := (i % lanes) % 4
  (bytes[lane]'(Nat.mod_lt _ (by decide)))[i / lanes]?

/-- Byte i to byte i + count - 1 of a striped run, once all of them have arrived (R61). -/
def stripedFrom (lanes : Nat) (bytes : LaneBytes) : Nat → Nat → Option (List Byte)
  | _, 0 => some []
  | i, count + 1 =>
    match stripedByte lanes bytes i, stripedFrom lanes bytes (i + 1) count with
    | some b, some rest => some (b :: rest)
    | _, _ => none

/-- The first `count` bytes of a packet rebuilt from its lane shares (R61). -/
def rebuild (lanes : Nat) (bytes : LaneBytes) (count : Nat) : Option (List Byte) :=
  stripedFrom lanes bytes 0 count

/-- Share of lane j of a run of T bytes: how many indices below T leave remainder j, 0 on a lane not in use (R61). -/
def laneShare (lanes total lane : Nat) : Nat := if lane < lanes then (total + (lanes - 1 - lane)) / lanes else 0

/-- Packet kinds (Table 4-2). -/
inductive PacketKind where
  | frameStart
  | metaRow
  | pixelRow
  | frameEnd
  | fill
deriving DecidableEq, Repr

/-- The kind a kind code names, if it is known (Table 4-2). -/
def packetKind (code : Nat) : Option PacketKind :=
  if code = 0x01 then some .frameStart else if code = 0x02 then some .metaRow else if code = 0x03 then some .pixelRow
  else if code = 0x04 then some .frameEnd else if code = 0x0F then some .fill else none

/-- Header fields (R63, Table 11-12). -/
def headerKind (h : BitVec 64) : Option PacketKind := packetKind (fieldAt h 0 1)
def headerNumber (h : BitVec 64) : Half := h.extractLsb' 8 16
def headerLength (h : BitVec 64) : Nat := fieldAt h 3 3
def headerLanes (h : BitVec 64) : Nat := fieldAt h 6 1
def headerCheck (h : BitVec 64) : Byte := h.extractLsb' 56 8

/-- The bytes of a header, byte 0 first. -/
def headerBytes (h : BitVec 64) : List Byte := leBytes 8 h.toNat

/-- A header from its eight bytes. -/
def headerOf (bytes : List Byte) : BitVec 64 := BitVec.ofNat 64 (leValue bytes)

/-- Bytes that follow the header: payload, and a trailer if there is a payload (R61). -/
def bodyBytes (length : Nat) : Nat := if length = 0 then 0 else length + 4

/-- One bit fed into a check register with generator `poly`. -/
def crcBit (poly register : BitVec n) (bit : Bool) : BitVec n :=
  if register.msb ^^ bit then (register <<< 1) ^^^ poly else register <<< 1

/-- Bits of a byte, least significant first. -/
def bitsLeastFirst (b : Byte) : List Bool := (List.range 8).map b.getLsbD

/-- Bits of a byte, most significant first. -/
def bitsMostFirst (b : Byte) : List Bool := (bitsLeastFirst b).reverse

/-- The header check: CRC-8, generator 07H, initial value 00H, most significant bit first (R64). -/
def crc8 (bytes : List Byte) : Byte :=
  bytes.foldl (fun reg b => (bitsMostFirst b).foldl (crcBit 0x07#8) reg) 0

/-- The trailer check: CRC-32, generator 04C11DB7H, initial value FFFFFFFFH, least significant bit first, the result reversed
and inverted (R66). -/
def crc32 (bytes : List Byte) : Word :=
  ~~~((bytes.foldl (fun reg b => (bitsLeastFirst b).foldl (crcBit 0x04C11DB7#32) reg) 0xFFFFFFFF).reverse)

/-- The header's check passes (R64). -/
def headerCheckPasses (h : BitVec 64) : Bool := headerCheck h = crc8 ((headerBytes h).take 7)

/-- A good header on a link of L lanes (R63). -/
def headerGood (lanes : Nat) (h : BitVec 64) : Bool :=
  headerCheckPasses h && (headerKind h).isSome && headerLanes h == lanes

/-- Bits of a packed payload as one number: stream bit m is bit m (R67). -/
def pixelStream (payload : List Byte) : Nat := leValue payload

/-- Pixel k of a row at depth D (R67). -/
def pixelAt (depth : Nat) (stream : Nat) (k : Nat) : Nat := (stream >>> (k * depth)) % 2 ^ depth

/-- Required row length: width times depth, divided by 8 and rounded up (R65). -/
def requiredRowLength (width depth : Nat) : Nat := ceilDiv (width * depth) 8

end Sys2Proof.Machine
end

