-- ==== Sys2Proof/Machine/Ops.lean ====
section
/-! DEFINITION. The shared operations: register window reads, channels and scanners in place, the system port, the bookkeeping
request order, entry to FAULT and the resets. -/

namespace Sys2Proof.Machine

/-- The views in id order. -/
def allViews : List ViewId := [0, 1, 2, 3, 4, 5, 6, 7]

/-- The pools in order. -/
def allPools : List PoolId := [0, 1, 2, 3]

/-- `f` on every view in id order. -/
def State.eachView (s : State) (f : ViewId → State → State) : State := allViews.foldl (fun s k => f k s) s

/-! ### Run controller -/

/-- The run is STOPPED or in FAULT: the part issues nothing and discards every response (spec 10 R172). -/
def State.halted (s : State) : Bool := s.run.state = .stopped || s.run.state = .fault

def State.setRunState (s : State) (r : RunState) : State := { s with run := { s.run with state := r } }

/-- The last command result (spec 10 R163). -/
def State.record (s : State) (r : CommandResult) : State := { s with run := { s.run with result := r } }

def State.setProgress (s : State) (p : StartProgress) : State := { s with run := { s.run with progress := p } }

/-! ### Blocks in place -/

def State.channel (s : State) (k : ViewId) : Channel := s.channels[k]

def State.setChannel (s : State) (k : ViewId) (c : Channel) : State := { s with channels := s.channels.set k c }

/-- The view frame of a channel is replaced. -/
def State.setFrame (s : State) (k : ViewId) (v : ViewFrame) : State :=
  s.setChannel k { s.channel k with frame := some v }

/-- A channel changes state and view frame together. -/
def State.moveChannel (s : State) (k : ViewId) (state : ChannelState) (v : ViewFrame) : State :=
  s.setChannel k { s.channel k with state := state, frame := some v }

def State.scanner (s : State) (p : PoolId) : Scanner := s.scanners[p]

def State.setScanner (s : State) (p : PoolId) (x : Scanner) : State := { s with scanners := s.scanners.set p x }

def State.setTracker (s : State) (t : Tracker) : State := { s with tracker := t }

def State.setReceiver (s : State) (r : Receiver) : State := { s with receiver := r }

def State.setPlan (s : State) (p : PlanUnit) : State := { s with plan := p }

/-! ### The system port -/

/-- A read or compare-exchange is issued. The part issues nothing while the run is STOPPED or in FAULT (spec 10 R172). -/
def State.issue (s : State) (role : PortRole) (access : PortAccess) : State :=
  if s.halted then s
  else
    { s with
      port := { entries := s.port.entries ++ [{ tag := s.port.nextTag, role := role, access := access }]
                nextTag := s.port.nextTag + 1 } }

/-- A write is admitted to the write queue and issued (spec 09 R151). -/
def State.enqueue (s : State) (role : WriteRole) (address : DWord) (data : List Byte) : State :=
  { s with
    queue := { s.queue with
      entries := s.queue.entries ++ [{ tag := s.port.nextTag, role := role, address := address, data := data }] }
    port := { s.port with nextTag := s.port.nextTag + 1 } }

/-- An outstanding read or compare-exchange is answered. -/
def State.dropPort (s : State) (tag : Nat) : State :=
  { s with port := { s.port with entries := s.port.entries.filter fun e => e.tag != tag } }

/-- An outstanding write is answered: its entry is freed (spec 09 R151). -/
def State.dropWrite (s : State) (tag : Nat) : State :=
  { s with queue := { s.queue with entries := s.queue.entries.filter fun e => e.tag != tag } }

/-- The outstanding read or compare-exchange of a tag, if `pick` accepts its role. -/
def State.portOwner (s : State) (tag : Nat) (pick : PortRole → Option α) : Option α :=
  (s.port.entries.find? fun e => e.tag == tag).bind fun e => pick e.role

/-- The outstanding write of a tag, if `pick` accepts its role. -/
def State.writeOwner (s : State) (tag : Nat) (pick : WriteRole → Option α) : Option α :=
  (s.queue.entries.find? fun e => e.tag == tag).bind fun e => pick e.role

/-- An answer to a read or compare-exchange: no outstanding transaction of its kind has the tag, and it is discarded as one
issued before a reset (log 2); or the transaction is counted off, and the answer discarded in STOPPED and FAULT (spec 10 R172),
delivered otherwise. -/
def State.answered (s : State) (tag : Nat) (pick : PortRole → Option α) (deliver : α → State → State) : State :=
  match s.portOwner tag pick with
  | none => s
  | some owner => if s.halted then s.dropPort tag else deliver owner (s.dropPort tag)

/-- A response to a write, as `State.answered`. -/
def State.responded (s : State) (tag : Nat) (pick : WriteRole → Option α) (deliver : α → State → State) : State :=
  match s.writeOwner tag pick with
  | none => s
  | some owner => if s.halted then s.dropWrite tag else deliver owner (s.dropWrite tag)

/-- Transactions of any kind outstanding on the system port (spec 10 R171). -/
def State.outstandingCount (s : State) : Nat := s.port.entries.length + s.queue.entries.length

/-! ### The bookkeeping request order (spec 09 R152) -/

/-- Same kind and owner: the second of two such requests is merged into the first (spec 09 R152). -/
def Request.same : Request → Request → Bool
  | .metadataCopy a, .metadataCopy b => a = b
  | .frameRecord a _, .frameRecord b _ => a = b
  | .viewTally a, .viewTally b => a = b
  | .linkTally, .linkTally => true
  | .adoptionWord, .adoptionWord => true
  | .metadataCopy _, _ | .frameRecord _ _, _ | .viewTally _, _ | .linkTally, _ | .adoptionWord, _ => false

/-- A request of this kind and owner is waiting for admission. -/
def State.waitingFor (s : State) (r : Request) : Bool := s.queue.requests.any r.same

/-- A bookkeeping write is asked for: it joins the end of the order, unless one of its kind and owner waits
(spec 09 R152; 03 R47, 05 R95, 06 R109). -/
def State.ask (s : State) (r : Request) : State :=
  if s.waitingFor r then s else { s with queue := { s.queue with requests := s.queue.requests ++ [r] } }

/-- A request is withdrawn before admission (spec 09 R152). -/
def State.withdraw (s : State) (r : Request) : State :=
  { s with queue := { s.queue with requests := s.queue.requests.filter fun q => !(r.same q) } }

/-- A frame record write is asked for: it withdraws a waiting tally of its channel and joins the end (spec 06 R109). -/
def State.askFrameRecord (s : State) (k : ViewId) (bytes : List Byte) : State :=
  (s.withdraw (.viewTally k)).ask (.frameRecord k bytes)

/-- A view tally of channel k is admitted and not answered. -/
def WriteRole.isViewTally (k : ViewId) : WriteRole → Bool
  | .viewTally j _ => j = k
  | .row _ _ _ | .metadataCopy _ _ | .frameRecord _ | .linkTally | .adoptionWord => false

def WriteRole.isLinkTally : WriteRole → Bool
  | .linkTally => true
  | .row _ _ _ | .metadataCopy _ _ | .frameRecord _ | .viewTally _ _ | .adoptionWord => false

def WriteRole.isAdoptionWord : WriteRole → Bool
  | .adoptionWord => true
  | .row _ _ _ | .metadataCopy _ _ | .frameRecord _ | .viewTally _ _ | .linkTally => false

/-! ### The receiver's entries to OFF and HUNT -/

/-- Entry to OFF drops the packet, what the lanes hold, the positions and both counts (spec 04 R68). -/
def Receiver.enterOff (r : Receiver) : Receiver :=
  { r with state := .off, positions := #v[none, none, none, none], verifyCount := 0, badCount := 0, phase := .idle,
           packet := none, held := #v[[], [], [], []] }

/-- Entry to HUNT drops the packet and the positions (spec 04 R69); the search begins with the next byte (log 21). -/
def Receiver.enterHunt (r : Receiver) : Receiver :=
  { r with state := .hunt, positions := #v[none, none, none, none], verifyCount := 0, badCount := 0, phase := .idle,
           packet := none, held := #v[[], [], [], []] }

/-! ### Entry to FAULT (spec 10 R170) -/

/-- Tracker at entry to FAULT: IDLE, disarmed, a frame in progress counted truncated (spec 05 R96). -/
def Tracker.enterFault (t : Tracker) : Tracker :=
  { t with
    state := .idle
    deadline := none
    framesTruncated := if t.state = .idle then t.framesTruncated else t.framesTruncated + 1 }

/-- Plan unit at entry to FAULT: fetch abandoned, pending plan discarded without counting (spec 03 R59). -/
def PlanUnit.enterFault (p : PlanUnit) : PlanUnit :=
  { p with fetch := .quiet, selector := none, discard := false, candidate := none }

/-- Scanner at entry to FAULT: queue emptied, claim dropped (spec 02 R45). -/
def Scanner.enterFault (x : Scanner) : Scanner := { x with queue := [], service := none }

/-- Channel at entry to FAULT: IDLE, view frame discarded, tally kept (spec 06 R115). -/
def Channel.enterFault (c : Channel) : Channel := { c with state := .idle, frame := none }

/-- `f` at every element of a vector of four. -/
def map4 (f : α → β) (v : Vector α 4) : Vector β 4 := #v[f v[0], f v[1], f v[2], f v[3]]

/-- `f` at every element of a vector of eight. -/
def map8 (f : α → β) (v : Vector α 8) : Vector β 8 :=
  #v[f v[0], f v[1], f v[2], f v[3], f v[4], f v[5], f v[6], f v[7]]

/-- The run goes to FAULT: FAULT is raised and every block halts at the same moment. Outstanding transactions stay counted
until their responses arrive, the bookkeeping order is emptied, and the result keeps its value (spec 10 R170; 09 R159). -/
def State.enterFault (s : State) : State :=
  { s.raise .fault with
    run := { s.run with state := .fault, progress := .none }
    receiver := s.receiver.enterOff
    tracker := s.tracker.enterFault
    plan := s.plan.enterFault
    scanners := map4 Scanner.enterFault s.scanners
    channels := map8 Channel.enterFault s.channels
    queue := { s.queue with requests := [] } }

/-! ### Resets (spec 10 R175, Table 10-7) -/

/-- Every block at its reset values, with the ANCHOR, enables and timebase given; outstanding transactions are forgotten.
The tag count goes on, so that a response from before the reset is known as such (log 20); the queue of commands is not the
part's. -/
def State.resetTo (s : State) (anchor : DWord) (enables : BitVec 14) (timebase : DWord) : State :=
  { State.reset with
    run := { RunControl.initial with anchor := anchor }
    attention := { flags := 0, enables := enables }
    timebase := timebase
    port := { entries := [], nextTag := s.port.nextTag }
    pending := s.pending }

/-- Soft reset keeps ANCHOR, ATTENTION_ENABLE and the timebase. -/
def State.softReset (s : State) : State := s.resetTo s.run.anchor s.attention.enables s.timebase

/-- Power-on reset and port reset. -/
def State.hardReset (s : State) : State := s.resetTo 0 0 0

/-! ### Register reads (spec 10 R160, R161) -/

/-- The tracker's in-frame indication (spec 05 R79). -/
def State.inFrame (s : State) : Bool := s.tracker.state != .idle

/-- LINK_STATUS (spec 10 Table 10-2). -/
def State.linkStatus (s : State) : Word :=
  BitVec.ofNat 32 (s.receiver.state.code + 16 * s.receiver.lanes + (if s.inFrame then 256 else 0))

/-- The 32-bit register at an offset, as it stands; 0 at an unlisted offset. A read changes nothing. -/
def State.readRegister (s : State) (offset : Nat) : Word :=
  if offset = 0x00 then 0x42080001
  else if offset = 0x04 then BitVec.ofNat 32 (s.run.state.code + 256 * s.run.result.code)
  else if offset = 0x08 then s.attention.flags.setWidth 32
  else if offset = 0x0C then s.attention.enables.setWidth 32
  else if offset = 0x10 then s.run.anchor.extractLsb' 0 32
  else if offset = 0x14 then s.run.anchor.extractLsb' 32 32
  else if offset = 0x18 then s.linkStatus
  else 0

/-- Offsets of Table 10-1. -/
def registerOffsets : List Nat := [0x00, 0x04, 0x08, 0x0C, 0x10, 0x14, 0x18]

/-- Where a read of `width` bytes finds its register: a read narrower than 32 bits at the aligned word its offset stands in, any other at
the offset itself (R160). -/
def readBase (offset width : Nat) : Nat := if width < 4 then offset / 4 * 4 else offset

/-- The bytes a read of `width` bytes returns: 0 where no register is listed; of 64 bits, the two registers it covers, the lower offset
first; of 32 bits, the register; a narrower read returns the addressed bytes of it (R160). What R160 leaves open is the model's choice
(log 16): a narrow read that runs past the end of its register returns the bytes left in it and no more, and a read of 64 bits at a listed
offset that is no multiple of 8, or of a width the window does not have, the four bytes of that register. -/
def State.readWindow (s : State) (offset width : Nat) : List Byte :=
  let base := readBase offset width
  if registerOffsets.contains base = false then List.replicate width 0
  else if width = 8 ∧ offset % 8 = 0 then
    leBytes 4 (s.readRegister offset).toNat ++ leBytes 4 (s.readRegister (offset + 4)).toNat
  else ((leBytes 4 (s.readRegister base).toNat).drop (offset - base)).take width

end Sys2Proof.Machine
end

