-- ==== Sys2Proof/Machine/PlanCheck.lean ====
section
/-! DEFINITION. The control block's records read by the part, derived sizes and validation (spec 01). -/

namespace Sys2Proof.Machine

/-! ### Pool table (spec 01 R5) -/

/-- Outcome of one pool table entry. -/
inductive PoolEntry where
  | absent
  | present (definition : PoolDefinition)
  | bad
deriving DecidableEq, Repr

/-- The array does not overlap the 4 KiB control block (log 10). -/
def clearOfControlBlock (anchor array : DWord) (count : Nat) : Bool :=
  array.toNat + 16 * count ≤ anchor.toNat || anchor.toNat + 4096 ≤ array.toNat

/-- Entry k of the pool table, checked (spec 01 R5, 11 Table 11-2). -/
def poolEntry (anchor : DWord) (table : BitVec 512) (k : Nat) : PoolEntry :=
  let array : DWord := table.extractLsb' (128 * k) 64
  let count := fieldAt table (16 * k + 8) 4
  if count = 0 then .absent
  else if count ≤ Config.poolSlots ∧ array.toNat % 16 = 0 ∧ clearOfControlBlock anchor array count = true then
    .present { address := array, count := count }
  else .bad

def PoolEntry.isBad : PoolEntry → Bool
  | .bad => true
  | .absent | .present _ => false

def PoolEntry.definition : PoolEntry → Option PoolDefinition
  | .present d => some d
  | .absent | .bad => none

/-- The four pool definitions, or `none` if an entry fails (spec 01 R5). -/
def poolTable (anchor : DWord) (table : BitVec 512) : Option (Vector (Option PoolDefinition) 4) :=
  let e := poolEntry anchor table
  if (e 0).isBad || (e 1).isBad || (e 2).isBad || (e 3).isBad then none
  else some #v[(e 0).definition, (e 1).definition, (e 2).definition, (e 3).definition]

/-! ### Link word and selector (spec 01 R3, R4) -/

/-- The lane counts accepted (R4). -/
def laneCountOk (l : Nat) : Bool := l = 1 || l = 2 || l = 4

/-- The two words of the selector (spec 11 Table 11-2). -/
def selectorOf (data : BitVec 64) : Selector :=
  { sequence := data.extractLsb' 0 32, page := data.extractLsb' 32 32 }

/-- The page index names a page (R3). -/
def Selector.namesPage (x : Selector) : Bool := x.page = 0 || x.page = 1

/-- Control block offset of the page named (R3). -/
def Selector.pageOffset (x : Selector) : DWord := if x.page = 0 then 0x400 else 0x800

/-! ### Derived sizes (spec 01 R16 to R18) -/

/-- The derived sizes of a view under mosaic period P (Table 1-4). -/
def derivedSizes (P : Nat) (d : Descriptor) : Sizes :=
  let wOut := d.columnCount / (P * d.cellsH) * P
  let hOut := d.rowCount / (P * d.cellsV) * P
  let bOut := if d.outDepth = 8 then 1 else 2
  let stride := roundUp (wOut * bOut) 64
  let metadata := roundUp d.metadataLimit 64
  { outWidth := wOut
    outHeight := hOut
    pixelBytes := bOut
    stride := stride
    metadataArea := metadata
    neededBytes := 256 + metadata + hOut * stride
    accumulatorBlocks := ceilDiv (P * wOut * 4) Config.lineBlockBytes
    stagingBlocks := ceilDiv (2 * P * wOut * bOut) Config.lineBlockBytes }

/-- Row bytes W_out · B_out (R16). -/
def Sizes.rowBytes (z : Sizes) : Nat := z.outWidth * z.pixelBytes

/-- Line blocks of a view (R18). -/
def Sizes.lineBlocks (z : Sizes) : Nat := z.accumulatorBlocks + z.stagingBlocks

/-- Row transactions per output row (spec 09 R150). -/
def Sizes.rowTransactions (z : Sizes) : Nat := ceilDiv z.rowBytes Config.transactionBytes

/-- Buffer offset of output row k (spec 08 R141). -/
def Sizes.rowOffset (z : Sizes) (k : Nat) : Nat := 256 + z.metadataArea + k * z.stride

/-! ### The plan header (spec 01 R9, 11 Table 11-6) -/

abbrev Page := BitVec 8192

def Page.head (p : Page) : Word := p.extractLsb' 0 32
def Page.tail (p : Page) : Word := p.extractLsb' (8 * 0x3FC) 32
def Page.mask (p : Page) : Byte := p.extractLsb' (8 * 0x04) 8
def Page.width (p : Page) : Half := p.extractLsb' (8 * 0x06) 16
def Page.height (p : Page) : Half := p.extractLsb' (8 * 0x08) 16
def Page.depth (p : Page) : Byte := p.extractLsb' (8 * 0x0A) 8
def Page.period (p : Page) : Byte := p.extractLsb' (8 * 0x0B) 8
def Page.gapLimit (p : Page) : Word := p.extractLsb' (8 * 0x0C) 32

/-- Descriptor k at page offset 040H + 64·k. -/
def Page.descriptor (p : Page) (k : Nat) : Descriptor := { raw := p.extractLsb' (8 * (0x40 + 64 * k)) 512 }

/-- The page is whole (R8). -/
def Page.whole (p : Page) (sequence : Word) : Bool := p.head = sequence && p.tail = sequence

/-- The header check (R9). -/
def Page.headerOk (p : Page) : Bool :=
  let w := p.width.toNat
  let h := p.height.toNat
  16 ≤ w && w ≤ 8192 && w % 4 = 0 && 1 ≤ h && h ≤ 8192 && (p.period ≠ 2 || h % 2 = 0)
    && (p.depth = 10 || p.depth = 12 || p.depth = 14) && (p.period = 1 || p.period = 2) && p.gapLimit.toNat ≤ 1000000

/-! ### View checks (spec 01 R11 to R15) -/

/-- The window check (R11), for mosaic period P and the expected width and height. -/
def windowOk (P width height : Nat) (d : Descriptor) : Bool :=
  d.rowStart % P = 0 && d.columnStart % P = 0 && 0 < d.rowCount && 0 < d.columnCount
    && d.rowCount % (P * d.cellsV) = 0 && d.columnCount % (P * d.cellsH) = 0
    && d.rowStart + d.rowCount ≤ height && d.columnStart + d.columnCount ≤ width

/-- Every used weight is 0 to 15. -/
def weightsInRange (n : Nat) (weight : Nat → Nat) : Bool := (List.range n).all fun j => weight j ≤ 15

/-- The weight check (R12). -/
def weightsOk (d : Descriptor) : Bool :=
  1 ≤ d.cellsV && d.cellsV ≤ 16 && 1 ≤ d.cellsH && d.cellsH ≤ 16
    && weightsInRange d.cellsV d.weightV && weightsInRange d.cellsH d.weightH && 1 ≤ d.sumV && 1 ≤ d.sumH

/-- The conditioning check (R13). -/
def conditioningOk (depth : Nat) (d : Descriptor) : Bool :=
  d.blackOffset ≤ 16383 && d.blackOffset < 2 ^ depth && d.gain ≤ 4095
    && (d.outDepth = 8 || d.outDepth = 10 || d.outDepth = 12 || d.outDepth = 16)

/-- The policy, notify, decimation and metadata checks (R14). -/
def choicesOk (d : Descriptor) : Bool :=
  d.policy ≤ 1 && d.notify ≤ 1 && 1 ≤ d.every && d.phase < d.every && d.metadataLimit ≤ 4096

/-- The range checks of rules R11 to R15. -/
def viewRangesOk (p : Page) (d : Descriptor) : Bool :=
  windowOk p.period.toNat p.width.toNat p.height.toNat d && weightsOk d && conditioningOk p.depth.toNat d && choicesOk d
    && d.pool ≤ 3

/-- The reason an enabled view fails, if it does: ranges first, pool presence last (R19 step 4). -/
def viewFault (pools : Vector (Option PoolDefinition) 4) (p : Page) (k : ViewId) : Option Reason :=
  let d := p.descriptor k.val
  if viewRangesOk p d = false then some .badView
  else if pools[d.poolId].isNone then some .badPool
  else none

/-- View k is enabled by a mask (R10). -/
def enabledIn (mask : Byte) (k : ViewId) : Bool := mask.getLsbD k.val

/-- The first enabled view that fails, with its reason (R19 step 4). -/
def firstViewFault (pools : Vector (Option PoolDefinition) 4) (p : Page) : Option (Reason × ViewId) :=
  allViews.findSome? fun k =>
    if enabledIn p.mask k then (viewFault pools p k).map fun r => (r, k) else none

/-- Derived sizes of view k, if it is enabled. -/
def pageSizes (p : Page) (k : ViewId) : Option Sizes :=
  if enabledIn p.mask k then some (derivedSizes p.period.toNat (p.descriptor k.val)) else none

/-- Line blocks of one view of a plan; a disabled view occupies none (R18). -/
def blocksOf : Option Sizes → Nat
  | some z => z.lineBlocks
  | none => 0

/-- The record of the plan a page holds (R22). -/
def Page.record (p : Page) (sequence : Word) : Plan :=
  { sequence := sequence
    mask := p.mask
    width := p.width
    height := p.height
    depth := p.depth
    period := p.period
    gapLimit := p.gapLimit
    views := #v[p.descriptor 0, p.descriptor 1, p.descriptor 2, p.descriptor 3, p.descriptor 4, p.descriptor 5,
      p.descriptor 6, p.descriptor 7]
    sizes := #v[pageSizes p 0, pageSizes p 1, pageSizes p 2, pageSizes p 3, pageSizes p 4, pageSizes p 5, pageSizes p 6,
      pageSizes p 7] }

/-- Line blocks of all enabled views (R18). -/
def Plan.lineBlocks (p : Plan) : Nat := (allViews.map fun k => blocksOf p.sizes[k]).sum

/-- The result of judging a plan: a record, or one reason and one view id (R19). -/
inductive Judgement where
  | valid (plan : Plan)
  | rejected (reason : Reason) (view : Byte)
deriving DecidableEq, Repr

/-- Judgement of the page bytes under a selector sequence and the pool definitions of the run (R19 steps 2 to 5). -/
def judgePage (pools : Vector (Option PoolDefinition) 4) (sequence : Word) (p : Page) : Judgement :=
  if p.whole sequence = false then .rejected .tornPage 0xFF
  else if p.headerOk = false then .rejected .badHeader 0xFF
  else
    match firstViewFault pools p with
    | some (reason, k) => .rejected reason (BitVec.ofNat 8 k.val)
    | none =>
      if Config.lineBlocks < (p.record sequence).lineBlocks then .rejected .lineMemory 0xFF
      else .valid (p.record sequence)

/-- Judgement of a page answer (R19). -/
def judge (pools : Vector (Option PoolDefinition) 4) (sequence : Word) : ReadAnswer 8192 → Judgement
  | .error => .rejected .readError 0xFF
  | .ok page => judgePage pools sequence page

/-! ### Line memory allocation (spec 09 R146) -/

/-- Blocks of the views before view k, which precede its allocation. -/
def Plan.blocksBefore (p : Plan) (k : ViewId) : Nat :=
  ((allViews.take k.val).map fun j => blocksOf p.sizes[j]).sum

/-- The allocation of view k: in view order, each enabled view after the one before it; a disabled view has 0 blocks (log 25 for the
first block of that one). -/
def Plan.allocation (p : Plan) (k : ViewId) : Allocation :=
  match p.sizes[k] with
  | some z => { first := p.blocksBefore k, accumulatorBlocks := z.accumulatorBlocks, stagingBlocks := z.stagingBlocks }
  | none => Allocation.empty

/-- All eight allocations, set in one step at an adoption. -/
def Plan.allocations (p : Plan) : Vector Allocation 8 :=
  #v[p.allocation 0, p.allocation 1, p.allocation 2, p.allocation 3, p.allocation 4, p.allocation 5, p.allocation 6,
    p.allocation 7]

/-- Blocks of an allocation. -/
def Allocation.blocks (a : Allocation) : Nat := a.accumulatorBlocks + a.stagingBlocks

end Sys2Proof.Machine
end

