-- ==== Sys2Proof/Machine/Reduction.lean ====
section
/-! DEFINITION. View reduction (spec 07): placing rows and columns, horizontal sums, accumulation, group finalization. -/

namespace Sys2Proof.Machine

/-- Where an input row stands in a view's window (R117). -/
structure RowPlace where
  phase : Nat
  group : Nat
  position : Nat
  weight : Nat
  /-- It is the last row of its group. -/
  last : Bool
deriving DecidableEq, Repr

/-- Placement of input row r, or `none` outside the window (R117). -/
def placeRow (P : Nat) (d : Descriptor) (r : Nat) : Option RowPlace :=
  if r < d.rowStart ∨ d.rowStart + d.rowCount ≤ r then none
  else
    let u := r - d.rowStart
    let cell := u / P
    some
      { phase := u % P
        group := cell / d.cellsV
        position := cell % d.cellsV
        weight := d.weightV (cell % d.cellsV)
        last := (u + 1) % (P * d.cellsV) == 0 }

/-- Number of vertical groups G (R117). -/
def groupCount (P : Nat) (d : Descriptor) : Nat := d.rowCount / (P * d.cellsV)

/-- Input column that position j of output column m gathers (R118). -/
def inputColumn (P : Nat) (d : Descriptor) (m j : Nat) : Nat := d.columnStart + (m / P * d.cellsH + j) * P + m % P

/-- Horizontal sum of output column m over a row given pixel by pixel (R121). -/
def horizontalSum (P : Nat) (d : Descriptor) (pixel : Nat → Nat) (m : Nat) : Nat :=
  sumBelow d.cellsH fun j => d.weightH j * pixel (inputColumn P d m j)

/-- Horizontal sums of an arrived row, output column by output column (R121). -/
def horizontalSums (P depth wOut : Nat) (d : Descriptor) (payload : List Byte) : List Nat :=
  let stream := pixelStream payload
  (List.range wOut).map (horizontalSum P d (pixelAt depth stream))

/-- One accumulator row with a row's weighted sums added (R122). -/
def addWeighted (weight : Nat) (row : List Word) (sums : List Nat) : List Word :=
  List.zipWith (fun a h => a + BitVec.ofNat 32 (weight * h)) row sums

/-- An empty accumulator: P rows of W_out zeros (R119). -/
def emptyAccumulator (P wOut : Nat) : List (List Word) := List.replicate P (List.replicate wOut 0)

/-- Both present-weight sums 0 (R119). -/
def emptyPresent (P : Nat) : List Nat := List.replicate P 0

/-- An arrived row that matters is accumulated in its phase; the other phase is unchanged (R122). -/
def ViewFrame.accumulate (v : ViewFrame) (place : RowPlace) (payload : List Byte) : ViewFrame :=
  let sums := horizontalSums v.period v.depth v.sizes.outWidth v.descriptor payload
  { v with
    accumulator := v.accumulator.modify place.phase fun row => addWeighted place.weight row sums
    present := v.present.modify place.phase fun sum => sum + place.weight }

/-- Output value of a numerator under divisor den: the average rounded to nearest, halves up; 0 when den is 0 (R127). -/
def outputValue (den numerator : Nat) : Nat := if den = 0 then 0 else (2 * numerator + den) / (2 * den)

/-- Divisor of phase q of the group in progress (R127). -/
def ViewFrame.divisor (v : ViewFrame) (q : Nat) : Nat := v.descriptor.sumH * v.present.getD q 0

/-- Output values of the phase-q output row of the group in progress (R127, R128). -/
def ViewFrame.outputRow (v : ViewFrame) (q : Nat) : List Nat :=
  (v.accumulator.getD q []).map fun a => outputValue (v.divisor q) a.toNat

/-- Phases of the group in progress whose present-weight sum is 0: its hole rows (R128). -/
def ViewFrame.groupHoles (v : ViewFrame) : Nat :=
  ((List.range v.period).filter fun q => v.present.getD q 0 == 0).length

/-- The accumulator emptied for the next group (R130). -/
def ViewFrame.emptied (v : ViewFrame) : ViewFrame :=
  { v with accumulator := emptyAccumulator v.period v.sizes.outWidth, present := emptyPresent v.period }

/-- The accumulator discarded at an abandonment (R133). -/
def ViewFrame.discarded (v : ViewFrame) : ViewFrame := { v with accumulator := [], present := [] }

end Sys2Proof.Machine
end

