-- ==== Sys2Proof/Machine/Conditioning.lean ====
section
/-! DEFINITION. Pixel conditioning, packing and the cell-row handed to staging (spec 08, 09 R148). -/

namespace Sys2Proof.Machine

/-- Offset: a less the black offset, stopping at 0 (R137). -/
def offsetStep (offset a : Nat) : Nat := a - offset

/-- Gain in units of 1/256, rounded to nearest, halves up (R137). -/
def gainStep (gain b : Nat) : Nat := (b * gain + 128) / 256

/-- Depth conversion from Din to Dout: up exactly, down with rounding to nearest, halves up (R138). -/
def depthStep (din dout c : Nat) : Nat :=
  if din ≤ dout then c * 2 ^ (dout - din) else (c + 2 ^ (din - dout - 1)) / 2 ^ (din - dout)

/-- The value d before saturation (R137, R138). -/
def unsaturated (din : Nat) (d : Descriptor) (a : Nat) : Nat :=
  depthStep din d.outDepth (gainStep d.gain (offsetStep d.blackOffset a))

/-- A value is clipped (R139). -/
def clips (din : Nat) (d : Descriptor) (a : Nat) : Bool := 2 ^ d.outDepth - 1 < unsaturated din d a

/-- The stored pixel (R139). -/
def storedPixel (din : Nat) (d : Descriptor) (a : Nat) : Nat := min (unsaturated din d a) (2 ^ d.outDepth - 1)

/-- The packed bytes of one output row (R140). -/
def packedRow (din bOut : Nat) (d : Descriptor) (values : List Nat) : List Byte :=
  (values.map fun a => leBytes bOut (storedPixel din d a)).flatten

/-- Pixels of one output row that clip (R139). -/
def clippedIn (din : Nat) (d : Descriptor) (values : List Nat) : Nat := (values.filter (clips din d)).length

/-- The cell-row of the group in progress, conditioned and packed (R129, R136, R140): output row g·P + q for each phase q,
every transaction of it not yet admitted. -/
def ViewFrame.cellRow (v : ViewFrame) : CellRow :=
  { rows := (List.range v.period).map fun q =>
      { number := v.group * v.period + q
        bytes := packedRow v.depth v.sizes.pixelBytes v.descriptor (v.outputRow q)
        transactions := List.replicate v.sizes.rowTransactions .waiting } }

/-- Pixels clipped in the cell-row of the group in progress (R139). -/
def ViewFrame.clipped (v : ViewFrame) : Nat :=
  ((List.range v.period).map fun q => clippedIn v.depth v.descriptor (v.outputRow q)).sum

/-- The group in progress conditioned into a free staging place, and the accumulator emptied (R126, R130, R136). -/
def ViewFrame.staged (v : ViewFrame) : ViewFrame :=
  { v.emptied with
    staging := v.staging ++ [v.cellRow]
    saturated := v.saturated + BitVec.ofNat 32 v.clipped }

/-- A staging place is free (spec 09 R148). -/
def ViewFrame.placeFree (v : ViewFrame) : Bool := v.staging.length < Config.stagingPlaces

/-! ### Staged rows and their transactions (spec 09 R148, R155, R158) -/

/-- Every transaction of the row is answered, or withdrawn. -/
def StagedRow.finished (r : StagedRow) : Bool := r.transactions.all fun t => t != .waiting && t != .outstanding

/-- Every transaction of the row is answered OK: the row is written (R155). -/
def StagedRow.written (r : StagedRow) : Bool := r.transactions.all fun t => t == .ok

/-- The place of a cell-row whose rows are all finished is free (R148). -/
def CellRow.finished (c : CellRow) : Bool := c.rows.all StagedRow.finished

/-- Places freed: finished cell-rows leave the list (R148). -/
def freePlaces (staging : List CellRow) : List CellRow := staging.filter fun c => !c.finished

/-- Transactions not yet admitted are withdrawn (R158). -/
def StagedRow.withdrawn (r : StagedRow) : StagedRow :=
  { r with transactions := r.transactions.map fun t => if t = .waiting then .withdrawn else t }

def CellRow.withdrawn (c : CellRow) : CellRow := { rows := c.rows.map StagedRow.withdrawn }

/-- Transaction `index` of output row `number` takes a new state. -/
def markTransaction (number index : Nat) (t : TransactionState) (staging : List CellRow) : List CellRow :=
  staging.map fun c =>
    { rows := c.rows.map fun r =>
        if r.number = number then { r with transactions := r.transactions.set index t } else r }

/-- The staged row of a number. -/
def stagedRow (number : Nat) (staging : List CellRow) : Option StagedRow :=
  (staging.flatMap fun c => c.rows).find? fun r => r.number == number

/-- The first transaction of a row that is not yet admitted. -/
def StagedRow.nextWaiting (r : StagedRow) : Option Nat := r.transactions.findIdx? fun t => t == .waiting

/-- The next row transaction a channel offers: oldest cell-row, phase-0 row, transaction 0 first (R154). -/
def nextTransaction (staging : List CellRow) : Option (StagedRow × Nat) :=
  (staging.flatMap fun c => c.rows).findSome? fun r => r.nextWaiting.map fun i => (r, i)

end Sys2Proof.Machine
end

