-- ==== Sys2Proof/Machine/Channel.lean ====
section
/-! DEFINITION. The view channels: opening, claim results, first write, notices, abandonment, flushing, closing (spec 06, 07, 08). -/

namespace Sys2Proof.Machine

/-- Do something with the view frame of a channel, if it carries one. -/
def State.withFrame (s : State) (k : ViewId) (f : ViewFrame → State) : State :=
  match (s.channel k).frame with
  | some v => f v
  | none => s

/-! ### Slot compare-exchanges of a channel (spec 02 R25) -/

/-- Address of a slot record: array address plus 16 times the index (spec 02 R41; log 10). -/
def State.slotAddress (s : State) (p : PoolId) (index : Nat) : DWord :=
  match (s.scanner p).definition with
  | some d => d.address + BitVec.ofNat 64 (16 * index)
  | none => BitVec.ofNat 64 (16 * index)

/-- A channel's compare-exchange on its slot word: from the word it expects to the same word with another state
(spec 02 R24, R25). -/
def State.exchangeSlot (s : State) (role : PortRole) (slot : Slot) (next : SlotState) : State :=
  s.issue role (.compareExchange (s.slotAddress slot.pool slot.index) slot.word (withSlotState slot.word next))

/-- The slot with a new state code in the word the channel expects. -/
def Slot.become (slot : Slot) (next : SlotState) : Slot := { slot with word := withSlotState slot.word next }

/-! ### Outcomes and the closing step (spec 06 R109, R112) -/

/-- A tally counts an outcome and names it as its last (R112). -/
def Tally.count (t : Tally) (frameNumber : Half) (c : OutcomeClass) (cause : OutcomeCause) : Tally :=
  { delivered := if c = .delivered then t.delivered + 1 else t.delivered
    torn := if c = .torn then t.torn + 1 else t.torn
    returned := if c = .returned then t.returned + 1 else t.returned
    skipped := if c = .skipped then t.skipped + 1 else t.skipped
    lost := if c = .lost then t.lost + 1 else t.lost
    lastFrame := frameNumber
    lastClass := c
    lastCause := cause }

/-- The closing step: count the outcome, release staging and accumulator, ask for the tally write (R109). -/
def closeFrame (k : ViewId) (c : OutcomeClass) (cause : OutcomeCause) (s : State) : State :=
  s.withFrame k fun v =>
    (s.setChannel k
      { s.channel k with
        frame := some { v.discarded with staging := [], closing := true }
        tally := (s.channel k).tally.count v.frameNumber c cause }).ask (.viewTally k)

/-- A view frame ends LOST with cause STOLEN: SLOT_STOLEN is raised and the channel takes its closing step (spec 02 R30 to
R32). -/
def loseSlot (k : ViewId) (s : State) : State := closeFrame k .lost .stolen (s.raise .slotStolen)

/-! ### First write and entry to FLUSHING (R103, R104) -/

/-- The channel has something to write: a metadata copy due or a cell-row staged (R103). -/
def ViewFrame.hasWork (v : ViewFrame) : Bool := v.copy = .due || !v.staging.isEmpty

/-- An ACTIVE channel whose slot is TAKEN issues the first-write compare-exchange as soon as it has something to write
(R103, spec 02 R30). -/
def issueFirstWrite (k : ViewId) (s : State) : State :=
  s.withFrame k fun v =>
    match v.slot with
    | none => s
    | some slot =>
      if (s.channel k).state = .active ∧ v.firstWrite = .notIssued ∧ v.hasWork = true then
        (s.setFrame k { v with firstWrite := .outstanding }).exchangeSlot (.firstWrite k) slot .filling
      else s

/-- An ACTIVE channel whose window is complete enters FLUSHING once its first-write compare-exchange is issued (R104). -/
def enterFlushing (k : ViewId) (s : State) : State :=
  s.withFrame k fun v =>
    if (s.channel k).state = .active ∧ v.windowComplete = true ∧ v.firstWrite ≠ .notIssued then
      s.moveChannel k .flushing v
    else s

/-- What an ACTIVE channel does at once after any change: first write, then FLUSHING if its window is complete. -/
def advanceActive (k : ViewId) (s : State) : State := enterFlushing k (issueFirstWrite k s)

/-! ### Abandonment (R105, R106, spec 09 R158) -/

/-- A copy not yet admitted stops being due; an admitted one is waited for. -/
def CopyProgress.withdrawn : CopyProgress → CopyProgress
  | .due | .waiting | .notDue => .notDue
  | .outstanding => .outstanding
  | .answered => .answered

/-- An abandoned view frame withdraws what has not been admitted, and frees the places with nothing outstanding (spec 09
R158). -/
def ViewFrame.withdrawn (v : ViewFrame) : ViewFrame :=
  { v.discarded with
    staging := freePlaces (v.staging.map CellRow.withdrawn)
    copy := v.copy.withdrawn }

/-- An abandoned view frame with nothing in the write queue drops its accumulator and staged cell-rows (R105). -/
def ViewFrame.dropped (v : ViewFrame) : ViewFrame :=
  { v.discarded with staging := [], copy := v.copy.withdrawn }

/-- The view frame is marked abandoned with its cause and end timestamp (R105). -/
def ViewFrame.mark (v : ViewFrame) (cause : OutcomeCause) (time : DWord) : ViewFrame :=
  { v with abandoned := some cause, endTime := time }

/-- An ACTIVE channel with a TAKEN slot and no compare-exchange issued enters RETURNING and returns the slot
(R105, R108, spec 02 R31). -/
def returnSlot (k : ViewId) (v : ViewFrame) (s : State) : State :=
  let s := s.moveChannel k .returning v
  match v.slot with
  | some slot => s.exchangeSlot (.giveBack k) slot .offered
  | none => s

/-- An abandoning event reaches a channel: the view frame leaves production according to state and slot (R105). It has no effect
on a view frame already abandoned or in a state Table 6-2 does not name. -/
def abandonFrame (k : ViewId) (cause : OutcomeCause) (time : DWord) (s : State) : State :=
  s.withFrame k fun v =>
    if v.abandoned.isSome then s
    else
      match (s.channel k).state, v.firstWrite with
      | .claiming, _ => s.moveChannel k .returning (v.mark cause time).dropped
      | .active, .notIssued => returnSlot k (v.mark cause time).dropped s
      | .active, .outstanding => s.moveChannel k .flushing (v.mark cause time).dropped
      | .active, .exchanged => (s.moveChannel k .flushing (v.mark cause time).withdrawn).withdraw (.metadataCopy k)
      | .flushing, _ => (s.moveChannel k .flushing (v.mark cause time).withdrawn).withdraw (.metadataCopy k)
      | .idle, _ | .sealing, _ | .returning, _ => s

/-- The channel is CLAIMING or ACTIVE. -/
def Channel.producing (c : Channel) : Bool := c.state = .claiming || c.state = .active

/-- The view frame is in production (spec 07 R120). -/
def Channel.inProduction (c : Channel) (v : ViewFrame) : Bool :=
  c.producing && v.abandoned.isNone && !v.windowComplete

/-! ### Claims (R99, R102, R108; spec 02 R39, R42 to R44) -/

/-- A failed claim reaches its channel: a CLAIMING view frame ends SKIPPED with the result as cause and FRAME_SKIPPED is raised;
one that has become RETURNING ends SKIPPED with the cause it carries (R102, R108). -/
def claimFailed (result : OutcomeCause) (k : ViewId) (s : State) : State :=
  s.withFrame k fun v =>
    if v.claimInFlight = false then s
    else
      let v := { v with claimInFlight := false }
      match (s.channel k).state with
      | .claiming =>
        closeFrame k .skipped result ((s.moveChannel k .returning v.dropped).raise .frameSkipped)
      | .returning => closeFrame k .skipped (v.abandoned.getD result) (s.setFrame k v)
      | .idle | .active | .flushing | .sealing => s

/-- A successful claim reaches its channel: a CLAIMING channel becomes ACTIVE with the slot, one that has become RETURNING
returns it (R102, R108). -/
def claimSucceeded (k : ViewId) (slot : Slot) (s : State) : State :=
  s.withFrame k fun v =>
    if v.claimInFlight = false then s
    else
      let v := { v with claimInFlight := false, slot := some slot }
      match (s.channel k).state with
      | .claiming => advanceActive k (s.moveChannel k .active v)
      | .returning => returnSlot k v s
      | .idle | .active | .flushing | .sealing => s

/-- A claim request is queued at a pool's scanner; a FAULTED pool fails it at once (spec 02 R39, R40, R44). -/
def queueClaim (p : PoolId) (r : ClaimRequest) (s : State) : State :=
  match (s.scanner p).state with
  | .ready => s.setScanner p { s.scanner p with queue := (s.scanner p).queue ++ [r] }
  | .faulted => claimFailed .poolFault r.view s

/-- The record of a new view frame, from the frame start notice and the adopted plan: counters 0, marks clear, accumulator empty
(R98, R99; spec 07 R119). The spec gives the end timestamp no value before production ends, and the copy length none before the metadata
notice: both are 0 here, the model's choice (log 27). -/
def newFrame (p : Plan) (d : Descriptor) (z : Sizes) (frameNumber : Half) (time : DWord) (bank : BankId) : ViewFrame :=
  { frameNumber := frameNumber
    startTime := time
    planSequence := p.sequence
    bank := bank
    descriptor := d
    sizes := z
    period := p.period.toNat
    depth := p.depth.toNat
    claimInFlight := true
    slot := none
    firstWrite := .notIssued
    windowComplete := false
    abandoned := none
    endTime := 0
    copy := .notDue
    copyLength := 0
    metadataBytes := 0
    metaTruncated := false
    metaLost := false
    missingRows := 0
    holeRows := 0
    saturated := 0
    rowsWritten := 0
    group := 0
    accumulator := emptyAccumulator p.period.toNat z.outWidth
    present := emptyPresent p.period.toNat
    staging := []
    closing := false }

/-- An IDLE channel opens a view frame: CLAIMING, with one claim request queued (R99). -/
def openFrame (p : Plan) (d : Descriptor) (z : Sizes) (frameNumber : Half) (time : DWord) (bank : BankId) (k : ViewId)
    (s : State) : State :=
  queueClaim d.poolId { view := k, needed := z.neededBytes, tag := frameNumber }
    (s.moveChannel k .claiming (newFrame p d z frameNumber time bank))

/-! ### The frame start notice (R99 to R101; spec 05 R85) -/

/-- Disposition of a view at a frame start (spec 05 R85). -/
inductive Disposition where
  | opens
  | skips (cause : OutcomeCause)
  | notOffered
deriving DecidableEq, Repr

/-- A skip decided at a frame start is counted at once; an IDLE channel asks for its tally write (R100). -/
def countSkip (frameNumber : Half) (cause : OutcomeCause) (k : ViewId) (s : State) : State :=
  let c := s.channel k
  let s := s.setChannel k { c with tally := c.tally.count frameNumber .skipped cause }
  if c.state = .idle then s.ask (.viewTally k) else s

/-- The effect of a frame start notice on the view frame of an earlier link frame: a CLAIMING channel is abandoned with
LATE_BUFFER (R101). -/
def overtake (time : DWord) (k : ViewId) (s : State) : State :=
  if (s.channel k).state = .claiming then abandonFrame k .lateBuffer time s else s

/-- The disposition of a frame start notice, taken after `overtake` (R99, R100). -/
def takeDisposition (p : Plan) (frameNumber : Half) (time : DWord) (bank : BankId) (k : ViewId) (x : Disposition)
    (s : State) : State :=
  match x with
  | .notOffered => s
  | .skips cause => countSkip frameNumber cause k s
  | .opens =>
    if (s.channel k).state = .idle then
      match p.sizes[k] with
      | some z => openFrame p p.views[k] z frameNumber time bank k s
      | none => s
    else countSkip frameNumber .busy k s

/-! ### Metadata notice (spec 05 R87, 08 R142, R144) -/

/-- The metadata notice taken by a view frame: copy due with its length, truncated flag (R142, R144). -/
def ViewFrame.takeMetadata (v : ViewFrame) (count : Nat) (truncated : Bool) : ViewFrame :=
  let limit := v.descriptor.metadataLimit
  { v with
    copy := if 0 < limit ∧ 0 < count then .due else .notDue
    copyLength := min count limit
    metaTruncated := 0 < limit && (truncated || limit < count) }

/-- A metadata notice reaches a channel; CLAIMING and ACTIVE channels take it (Table 6-1). -/
def metadataNotice (count : Nat) (truncated : Bool) (k : ViewId) (s : State) : State :=
  s.withFrame k fun v =>
    if (s.channel k).producing && v.abandoned.isNone then
      advanceActive k (s.setFrame k (v.takeMetadata count truncated))
    else s

/-! ### Row notices (spec 05 R89, 07 R120 to R131) -/

/-- A group is finalized: its cell-row is conditioned into a free staging place and the next group begins or the window is
complete; or staging overflows and the view frame is abandoned (spec 07 R126 to R131, 09 R149). Hole rows are counted in either
case (log 7). -/
def finalizeGroup (time : DWord) (k : ViewId) (v : ViewFrame) (s : State) : State :=
  let v := { v with holeRows := v.holeRows + v.groupHoles }
  if v.placeFree then
    if v.group + 1 < groupCount v.period v.descriptor then
      advanceActive k (s.setFrame k { v.staged with group := v.group + 1 })
    else
      advanceActive k (s.setFrame k { v.staged with windowComplete := true, endTime := time })
  else
    abandonFrame k (if (s.channel k).state = .claiming then .lateBuffer else .overrun) time (s.setFrame k v)

/-- A row notice's own effect on a view frame in production, but for abandonment (spec 07 R122, R123, R125). -/
def ViewFrame.takeRow (v : ViewFrame) (place : RowPlace) (payload : Option (List Byte)) : ViewFrame :=
  if place.weight = 0 then v
  else
    match payload with
    | some bytes => v.accumulate place bytes
    | none => { v with missingRows := v.missingRows + 1 }

/-- The notice abandons the view frame: a missing row that matters, under ABANDON (spec 07 R124). -/
def ViewFrame.losesRow (v : ViewFrame) (place : RowPlace) (payload : Option (List Byte)) : Bool :=
  place.weight != 0 && payload.isNone && v.descriptor.policy == 1

/-- A row notice, arrived with its payload or missing, reaches a channel (spec 07 R120, Table 7-2). -/
def rowNotice (time : DWord) (row : Nat) (payload : Option (List Byte)) (k : ViewId) (s : State) : State :=
  s.withFrame k fun v =>
    if (s.channel k).inProduction v then
      match placeRow v.period v.descriptor row with
      | none => s
      | some place =>
        let v' := v.takeRow place payload
        let s' := s.setFrame k v'
        if v.losesRow place payload then abandonFrame k .rowLoss time s'
        else if place.last then finalizeGroup time k v' s'
        else s'
    else s

/-! ### Truncation, ABORT and bank reuse -/

/-- A truncation notice abandons a CLAIMING or ACTIVE view frame whose window is not complete (spec 05 R91, Table 6-2). -/
def truncationNotice (cause : OutcomeCause) (time : DWord) (k : ViewId) (s : State) : State :=
  s.withFrame k fun v => if (s.channel k).inProduction v then abandonFrame k cause time s else s

/-- ABORT reaches a channel: CLAIMING and ACTIVE view frames are abandoned (R114). -/
def abortChannel (time : DWord) (k : ViewId) (s : State) : State :=
  if (s.channel k).producing then abandonFrame k .aborted time s else s

/-- Clearing a bank cancels the copy of a view frame that uses it, if the copy is due and not admitted, and sets META_LOST
(spec 09 R157). -/
def cancelCopy (bank : BankId) (k : ViewId) (s : State) : State :=
  s.withFrame k fun v =>
    if v.bank = bank ∧ (v.copy = .due ∨ v.copy = .waiting) then
      (s.setFrame k { v with copy := .notDue, metaLost := true }).withdraw (.metadataCopy k)
    else s

/-! ### FLUSHING to SEALING (R106, R107, R111) -/

/-- Nothing the channel has issued is outstanding and nothing it has asked for is waiting (R106). -/
def ViewFrame.flushed (v : ViewFrame) : Bool :=
  v.firstWrite = .exchanged && v.staging.isEmpty && (v.copy = .notDue || v.copy = .answered)

/-- Class of a view frame at sealing (R107). -/
def ViewFrame.sealClass (v : ViewFrame) : OutcomeClass := if v.abandoned.isSome then .torn else .delivered

/-- Cause of a view frame at sealing (R107). -/
def ViewFrame.sealCause (v : ViewFrame) : OutcomeCause := v.abandoned.getD .complete

/-- The frame record, 256 bytes (R111, spec 11 Table 11-10). -/
def frameRecordBytes (k : ViewId) (v : ViewFrame) : List Byte :=
  leBytes 2 v.frameNumber.toNat ++ leBytes 1 k.val ++ leBytes 1 v.sealClass.code ++ leBytes 1 v.sealCause.code
    ++ leBytes 1 v.descriptor.outDepth ++ leBytes 2 v.flagBits ++ leBytes 4 v.planSequence.toNat
    ++ leBytes 2 v.sizes.outWidth ++ leBytes 2 v.sizes.outHeight ++ leBytes 2 v.rowsWritten ++ leBytes 2 0
    ++ leBytes 4 v.sizes.stride ++ leBytes 2 v.metadataBytes ++ leBytes 2 v.missingRows ++ leBytes 2 v.holeRows
    ++ leBytes 2 0 ++ leBytes 4 v.saturated.toNat ++ leBytes 4 0 ++ leBytes 8 v.startTime.toNat
    ++ leBytes 8 v.endTime.toNat ++ List.replicate 200 0

/-- A view tally, 32 bytes (R112, spec 11 Table 11-5). -/
def tallyBytes (t : Tally) : List Byte :=
  leBytes 4 t.delivered.toNat ++ leBytes 4 t.torn.toNat ++ leBytes 4 t.returned.toNat ++ leBytes 4 t.skipped.toNat
    ++ leBytes 4 t.lost.toNat ++ leBytes 2 t.lastFrame.toNat ++ leBytes 1 t.lastClass.code ++ leBytes 1 t.lastCause.code
    ++ List.replicate 8 0

/-- The channel can enter SEALING. -/
def State.readyToSeal (s : State) (k : ViewId) : Bool :=
  match (s.channel k).frame with
  | some v => (s.channel k).state = .flushing && v.flushed
  | none => false

/-- Entry to SEALING: the frame record is composed and its write asked for (R107). -/
def enterSealing (k : ViewId) (s : State) : State :=
  s.withFrame k fun v =>
    if s.readyToSeal k then (s.moveChannel k .sealing v).askFrameRecord k (frameRecordBytes k v) else s

/-! ### Answers to a channel -/

/-- The view frame once its first write is exchanged: the slot is FILLING and the channel expects the FILLING word (R103). -/
def ViewFrame.filling (v : ViewFrame) : ViewFrame :=
  { v with firstWrite := .exchanged, slot := v.slot.map fun x => x.become .filling }

/-- Answer to the first-write compare-exchange, for the channel that waits for it (R103). -/
def firstWriteAnswered (answer : CasAnswer) (k : ViewId) (s : State) : State :=
  match answer with
  | .error => s.enterFault
  | .exchanged =>
    s.withFrame k fun v =>
      if v.firstWrite ≠ .outstanding then s
      else if v.copy = .due ∧ v.abandoned = none then
        (s.setFrame k { v.filling with copy := .waiting }).ask (.metadataCopy k)
      else s.setFrame k v.filling
  | .notExchanged =>
    s.withFrame k fun v =>
      if v.firstWrite ≠ .outstanding then s
      else loseSlot k (s.moveChannel k .returning { v.dropped with slot := none })

/-- Answer to the return compare-exchange (R108). -/
def returnAnswered (answer : CasAnswer) (k : ViewId) (s : State) : State :=
  match answer with
  | .error => s.enterFault
  | .exchanged =>
    s.withFrame k fun v => closeFrame k .returned (v.abandoned.getD .none) (s.setFrame k { v with slot := none })
  | .notExchanged => s.withFrame k fun v => loseSlot k (s.setFrame k { v with slot := none })

/-- Response to the frame record write of a SEALING channel: OK issues the sealing compare-exchange (R107). -/
def frameRecordAnswered (answer : WriteAnswer) (k : ViewId) (s : State) : State :=
  match answer with
  | .error => s.enterFault
  | .ok =>
    s.withFrame k fun v =>
      match v.slot with
      | some slot =>
        if (s.channel k).state = .sealing then
          s.exchangeSlot (.sealing k) slot (if v.abandoned.isSome then .torn else .filled)
        else s
      | none => s

/-- The cause a sealing raises: FRAME_FILLED for a DELIVERED view frame with notify 1, FRAME_TORN for a TORN one (R107). -/
def raiseSealed (v : ViewFrame) (s : State) : State :=
  if v.abandoned.isSome then s.raise .frameTorn
  else if v.descriptor.notify = 1 then s.raise .frameFilled
  else s

/-- Answer to the sealing compare-exchange (R107). -/
def sealingAnswered (answer : CasAnswer) (k : ViewId) (s : State) : State :=
  match answer with
  | .error => s.enterFault
  | .exchanged =>
    s.withFrame k fun v => closeFrame k v.sealClass v.sealCause ((raiseSealed v s).setFrame k { v with slot := none })
  | .notExchanged => s.withFrame k fun v => loseSlot k (s.setFrame k { v with slot := none })

/-- Response to a view tally write: the one of the closing step lets the channel enter IDLE (R109). -/
def viewTallyAnswered (answer : WriteAnswer) (k : ViewId) (closing : Bool) (s : State) : State :=
  match answer with
  | .error => s.enterFault
  | .ok => if closing then s.setChannel k { s.channel k with state := .idle, frame := none } else s

/-- A row transaction is answered OK: the row is written when every transaction of it is (spec 09 R155). -/
def ViewFrame.rowOk (v : ViewFrame) (number index : Nat) : ViewFrame :=
  let staging := markTransaction number index .ok v.staging
  let written := match stagedRow number staging with
    | some r => r.written
    | none => false
  { v with
    rowsWritten := if written then v.rowsWritten + 1 else v.rowsWritten
    staging := freePlaces staging }

/-- A row transaction is answered ERROR (spec 09 R155). -/
def ViewFrame.rowFailed (v : ViewFrame) (number index : Nat) : ViewFrame :=
  { v with staging := freePlaces (markTransaction number index .failed v.staging) }

/-- Response to a row transaction (spec 09 R155). -/
def rowAnswered (answer : WriteAnswer) (k : ViewId) (number index : Nat) (s : State) : State :=
  s.withFrame k fun v =>
    match answer with
    | .ok => s.setFrame k (v.rowOk number index)
    | .error => abandonFrame k .busError s.timebase (s.setFrame k (v.rowFailed number index))

/-- Response to a metadata copy, handed to the view frame that issued it (spec 09 R156). -/
def copyAnswered (answer : WriteAnswer) (k : ViewId) (frameNumber : Half) (s : State) : State :=
  s.withFrame k fun v =>
    if v.frameNumber ≠ frameNumber then s
    else
      match answer with
      | .ok => s.setFrame k { v with copy := .answered, metadataBytes := v.copyLength }
      | .error => abandonFrame k .busError s.timebase (s.setFrame k { v with copy := .answered })

/-! ### Quiescence (R109) -/

/-- The channel reports quiet: IDLE with no tally write of its own waiting or admitted. -/
def State.channelQuiet (s : State) (k : ViewId) : Bool :=
  (s.channel k).state = .idle && !s.waitingFor (.viewTally k) && !(s.queue.entries.any fun e => e.role.isViewTally k)

/-- All eight channels are IDLE (spec 03 R55). -/
def State.allIdle (s : State) : Bool := allViews.all fun k => (s.channel k).state = .idle

end Sys2Proof.Machine
end

