-- ==== Sys2Proof/Machine/ScannerUnit.lean ====
section
/-! DEFINITION. The pool scanners: service of a claim, slot visits, refusals, faults (spec 02 R38 to R45). -/

namespace Sys2Proof.Machine

/-- Index after a slot's, going from the last slot to slot 0 (R41). -/
def nextIndex (count index : Nat) : Nat := if index + 1 < count then index + 1 else 0

/-- A scanner visits a slot: it reads the slot record (R40, R41; spec 02 R23). -/
def visitSlot (p : PoolId) (service : ClaimService) (s : State) : State :=
  (s.setScanner p { s.scanner p with service := some { service with slot := none } }).issue (.slotRead p)
    (.read (s.slotAddress p service.index) 16)

/-- The scanner can begin a claim: waiting, READY, a request queued, and the run RUNNING, STOPPING or ABORTING (R40, R45). -/
def State.canServe (s : State) (p : PoolId) : Bool :=
  (s.run.state = .running || s.run.state = .stopping || s.run.state = .aborting)
    && (s.scanner p).state = .ready && (s.scanner p).service.isNone && !(s.scanner p).queue.isEmpty
    && (s.scanner p).definition.isSome

/-- A waiting scanner takes its oldest request and begins the scan at the cursor (R40). -/
def startService (p : PoolId) (s : State) : State :=
  match (s.scanner p).queue with
  | [] => s
  | r :: rest =>
    if s.canServe p then
      visitSlot p { request := r, index := (s.scanner p).cursor, visited := 0, slot := none }
        (s.setScanner p { s.scanner p with queue := rest })
    else s

/-- The scanner is waiting again; its claim is finished (R40). -/
def endService (p : PoolId) (s : State) : State := s.setScanner p { s.scanner p with service := none }

/-- A slot is passed: the next one is visited, or after one round the claim fails with STARVED and the cursor stays
(R41, R43). -/
def passSlot (p : PoolId) (d : PoolDefinition) (service : ClaimService) (s : State) : State :=
  if service.visited + 1 < d.count then
    visitSlot p { service with index := nextIndex d.count service.index, visited := service.visited + 1 } s
  else claimFailed .starved service.request.view (endService p s)

/-- Views whose claim is in service or queued at a scanner. -/
def Scanner.claimants (x : Scanner) : List ViewId :=
  (match x.service with
    | some service => [service.request.view]
    | none => []) ++ x.queue.map ClaimRequest.view

/-- An ERROR answer puts the pool in FAULTED: POOL_FAULT is raised, the claim in service and every queued request fail (R44).
The channels take the failures in view id order, the order spec 09 R152 gives their requests (log 19). -/
def faultPool (p : PoolId) (s : State) : State :=
  let failing := (s.scanner p).claimants
  ((s.setScanner p { s.scanner p with state := .faulted, queue := [], service := none }).raise .poolFault).eachView
    fun k s => if failing.contains k then claimFailed .poolFault k s else s

/-- The slot record fits a claim: capacity at least the needed bytes, address a multiple of 64 (R41). -/
def slotFits (r : BitVec 128) (needed : Nat) : Bool :=
  needed ≤ (recordCapacity r).toNat && (recordAddress r).toNat % 64 = 0

/-- The scanner's compare-exchange on the slot word it read (R28, R29; spec 02 R25). -/
def scannerExchange (p : PoolId) (role : PortRole) (service : ClaimService) (r : BitVec 128) (next : SlotState)
    (s : State) : State :=
  (s.setScanner p { s.scanner p with service := some { service with slot := some r } }).issue role
    (.compareExchange (s.slotAddress p service.index) (recordWord r)
      (freshSlotWord next service.request.view service.request.tag))

/-- Do something with a scanner's definition and claim in service, if it has both. -/
def State.withService (s : State) (p : PoolId) (f : PoolDefinition → ClaimService → State) : State :=
  match (s.scanner p).definition, (s.scanner p).service with
  | some d, some service => f d service
  | _, _ => s

/-- Answer to a slot record read: the slot is passed, refused or claimed (R41). -/
def slotReadAnswered (answer : ReadAnswer 128) (p : PoolId) (s : State) : State :=
  match answer with
  | .error => faultPool p s
  | .ok r =>
    s.withService p fun d service =>
      if slotState (recordWord r) ≠ .offered then passSlot p d service s
      else if slotFits r service.request.needed then scannerExchange p (.claim p) service r .taken s
      else scannerExchange p (.refusal p) service r .refused s

/-- The slot a claim won, as the scanner hands it to the channel (R42). -/
def claimedSlot (p : PoolId) (service : ClaimService) (r : BitVec 128) : Slot :=
  { pool := p
    index := service.index
    address := recordAddress r
    capacity := recordCapacity r
    word := freshSlotWord .taken service.request.view service.request.tag }

/-- Answer to a claim compare-exchange (R28, R42). -/
def claimAnswered (answer : CasAnswer) (p : PoolId) (s : State) : State :=
  match answer with
  | .error => faultPool p s
  | .notExchanged => s.withService p fun d service => passSlot p d service s
  | .exchanged =>
    s.withService p fun d service =>
      match service.slot with
      | none => s
      | some r =>
        claimSucceeded service.request.view (claimedSlot p service r)
          (s.setScanner p { s.scanner p with cursor := nextIndex d.count service.index, service := none })

/-- Answer to a refusal compare-exchange: exchanged raises SLOT_REFUSED; either way the slot is passed (R29). -/
def refusalAnswered (answer : CasAnswer) (p : PoolId) (s : State) : State :=
  match answer with
  | .error => faultPool p s
  | .notExchanged => s.withService p fun d service => passSlot p d service s
  | .exchanged => s.withService p fun d service => passSlot p d service (s.raise .slotRefused)

/-- A scanner at the entry to RUNNING: the pool table just read, cursor 0, READY, nothing queued (R38). -/
def Scanner.begin (definition : Option PoolDefinition) : Scanner :=
  { definition := definition, cursor := 0, state := .ready, queue := [], service := none }

end Sys2Proof.Machine
end

