-- ==== Sys2Proof/Machine/PlanAdoption.lean ====
section
/-! DEFINITION. The plan unit: fetch, judgement of answers, adoption and the adoption word area (spec 03). -/

namespace Sys2Proof.Machine

/-- Control block address of an offset (spec 10 R162). -/
def State.blockAddress (s : State) (offset : DWord) : DWord := s.run.anchor + offset

/-- The fetch state becomes QUIET: the fetch selector and the discard mark go with it (R46). -/
def PlanUnit.quieted (p : PlanUnit) : PlanUnit := { p with fetch := .quiet, selector := none, discard := false }

def State.quietFetch (s : State) : State := s.setPlan s.plan.quieted

/-- The sequence of the adopted plan is `sequence`. -/
def PlanUnit.adoptedIs (p : PlanUnit) (sequence : Word) : Bool := p.adopted.any fun x => x.sequence = sequence

/-- The sequence of the pending plan is `sequence`. -/
def PlanUnit.candidateIs (p : PlanUnit) (sequence : Word) : Bool := p.candidate.any fun x => x.sequence = sequence

/-- The pending plan is discarded, and counted if there was one (R51, R52, R53). -/
def PlanUnit.dropCandidate (p : PlanUnit) : PlanUnit :=
  match p.candidate with
  | none => p
  | some _ => { p with candidate := none, report := { p.report with discards := p.report.discards + 1 } }

/-- The pending plan is discarded; a counted discard asks for an adoption word write (R47). -/
def discardCandidate (s : State) : State :=
  match s.plan.candidate with
  | none => s
  | some _ => (s.setPlan s.plan.dropCandidate).ask .adoptionWord

/-- Report values of a rejection (R49, R51, R53). -/
def Report.reject (r : Report) (sequence : Word) (reason : Reason) (view : Byte) : Report :=
  { r with
    rejectedSequence := sequence
    reason := reason
    rejectedView := view
    transients := if reason.transient then r.transients + 1 else r.transients }

/-- A rejection is reported: report values, remembered sequence for a definitive reason, adoption word write asked for,
PLAN_REJECTED raised (R49, R53, R54). -/
def reportRejection (sequence : Word) (reason : Reason) (view : Byte) (s : State) : State :=
  ((s.setPlan
    { s.plan with
      report := s.plan.report.reject sequence reason view
      remembered := if reason.definitive then some sequence else s.plan.remembered }).ask .adoptionWord).raise .planRejected

/-! ### Adoption (R48, R55; spec 09 R146) -/

/-- A plan is adopted: it replaces the adopted plan, no plan is pending, line memory is reallocated in one step, the report values
take its sequence and the adoption frame, an adoption word write is asked for and PLAN_ADOPTED raised. -/
def adoptPlan (p : Plan) (adoptionFrame : Word) (s : State) : State :=
  ({ s with
      plan := { s.plan with
        adopted := some p
        candidate := none
        report := { s.plan.report with adoptedSequence := p.sequence, adoptionFrame := adoptionFrame } }
      allocations := p.allocations }.ask .adoptionWord).raise .planAdopted

/-- Adoption at START: adoption frame FFFFFFFFH; a remembered sequence equal to the adopted one becomes none; QUIET (R48,
R54). -/
def adoptFirst (p : Plan) (s : State) : State :=
  let s := adoptPlan p 0xFFFFFFFF s
  (s.setPlan
    { s.plan.quieted with
      remembered := if s.plan.remembered = some p.sequence then none else s.plan.remembered }).setProgress .adopted

/-- A START failure is reported, and the plan unit is QUIET (R49). -/
def failStart (sequence : Word) (reason : Reason) (view : Byte) (s : State) : State :=
  ((reportRejection sequence reason view s).quietFetch).setProgress .failed

/-! ### Reads -/

/-- The selector read is issued: one 8-byte read at offset 000H (spec 01 R3). -/
def readSelector (role : PortRole) (s : State) : State :=
  (s.setPlan { s.plan with fetch := .selector, selector := none, discard := false }).issue role
    (.read (s.blockAddress 0) 8)

/-- The selector is kept and the page read issued: one read of 1024 bytes (spec 01 R7, R46). -/
def readPage (role : PortRole) (x : Selector) (s : State) : State :=
  (s.setPlan { s.plan with fetch := .page, selector := some x }).issue role (.read (s.blockAddress x.pageOffset) 1024)

/-- A fetch in flight is marked for discard (R49, R58). -/
def markDiscard (s : State) : State :=
  if s.plan.fetch = .quiet then s else s.setPlan { s.plan with discard := true }

/-! ### Answers at START (R48, R49) -/

/-- Sequence of the fetch selector. -/
def PlanUnit.selectorSequence (p : PlanUnit) : Word :=
  match p.selector with
  | some x => x.sequence
  | none => 0

/-- Answer to the selector read of START. -/
def startSelectorAnswered (answer : ReadAnswer 64) (s : State) : State :=
  if s.plan.discard = true ∨ s.run.state ≠ .starting then s.quietFetch
  else
    match answer with
    | .error => s.enterFault
    | .ok data =>
      if (selectorOf data).namesPage then readPage .startPage (selectorOf data) s
      else failStart (selectorOf data).sequence .badHeader 0xFF s

/-- Answer to the page read of START: the first plan is judged and adopted, or START fails. -/
def startPageAnswered (answer : ReadAnswer 8192) (s : State) : State :=
  if s.plan.discard = true ∨ s.run.state ≠ .starting then s.quietFetch
  else
    match judge s.run.pools s.plan.selectorSequence answer with
    | .valid p => adoptFirst p s
    | .rejected reason view => failStart s.plan.selectorSequence reason view s

/-! ### Fetching during a run (R50 to R53) -/

/-- A frame end starts a fetch in RUNNING with the fetch state QUIET (R50). -/
def frameEndFetch (s : State) : State :=
  if s.run.state = .running ∧ s.plan.fetch = .quiet then readSelector .selector s else s

/-- Selector answer with no discard mark, by the first matching case of Table 3-3 (R51). -/
def takeSelector (x : Selector) (s : State) : State :=
  if s.plan.adoptedIs x.sequence then discardCandidate s.quietFetch
  else if s.plan.candidateIs x.sequence then s.quietFetch
  else if s.plan.remembered = some x.sequence then discardCandidate s.quietFetch
  else if x.namesPage then readPage .page x s
  else reportRejection x.sequence .badHeader 0xFF (discardCandidate s.quietFetch)

/-- Answer to a running selector read (R51, R58). -/
def selectorAnswered (answer : ReadAnswer 64) (s : State) : State :=
  if s.plan.discard then s.quietFetch
  else
    match answer with
    | .error => reportRejection 0 .readError 0xFF s.quietFetch
    | .ok data => takeSelector (selectorOf data) s

/-- A valid plan becomes pending; a plan it replaces is discarded and counted (R52). -/
def makeCandidate (p : Plan) (s : State) : State :=
  let s := discardCandidate s
  s.setPlan { s.plan with candidate := some p }

/-- A rejected running page, by the kind of its reason (R53). -/
def rejectPage (sequence : Word) (reason : Reason) (view : Byte) (s : State) : State :=
  reportRejection sequence reason view (if reason.definitive then discardCandidate s else s)

/-- Answer to a running page read (R52, R53, R58). -/
def pageAnswered (answer : ReadAnswer 8192) (s : State) : State :=
  if s.plan.discard then s.quietFetch
  else
    match judge s.run.pools s.plan.selectorSequence answer with
    | .valid p => makeCandidate p s.quietFetch
    | .rejected reason view => rejectPage s.plan.selectorSequence reason view s.quietFetch

/-! ### Frame starts (R55, R56) -/

/-- The frame start makes the link frame an adoption gap: RUNNING, a plan pending, some channel not IDLE (R56). -/
def State.adoptionGap (s : State) : Bool := s.run.state = .running && s.plan.candidate.isSome && !s.allIdle

/-- The plan unit's part of a frame start: adoption, adoption gap, or nothing (R55, R56). -/
def planFrameStart (frameNumber : Half) (s : State) : State :=
  if s.run.state ≠ .running then s
  else
    match s.plan.candidate with
    | none => s
    | some p =>
      if s.allIdle then adoptPlan p (frameNumber.setWidth 32) s
      else
        ((s.setPlan
          { s.plan with report := { s.plan.report with deferrals := s.plan.report.deferrals + 1 } }).ask
            .adoptionWord).raise .adoptionDeferred

/-! ### The adoption word area (R47, spec 11 Table 11-3) -/

/-- The 32 bytes of the adoption word area. -/
def adoptionWordBytes (r : Report) : List Byte :=
  leBytes 4 r.adoptedSequence.toNat ++ leBytes 4 r.adoptionFrame.toNat ++ leBytes 4 r.rejectedSequence.toNat
    ++ leBytes 1 r.reason.code ++ leBytes 1 r.rejectedView.toNat ++ leBytes 2 0 ++ leBytes 4 r.deferrals.toNat
    ++ leBytes 4 r.transients.toNat ++ leBytes 4 r.discards.toNat ++ leBytes 4 0

/-! ### The end of the START sequence (spec 10 R165) -/

/-- The run enters RUNNING with result STARTED: scanners take their definitions, the round-robin pointer becomes 0, the receiver
takes the lanes in use and enters HUNT (spec 10 R165). -/
def enterRunning (s : State) : State :=
  { s with
    run := { s.run with state := .running, result := .started, progress := .none }
    scanners := map4 Scanner.begin s.run.pools
    receiver := { s.receiver.enterHunt with lanes := s.run.lanesRead }
    queue := { s.queue with pointer := 0 } }

/-- The run enters STOPPED with result START_FAILED (spec 10 R165). -/
def endFailedStart (s : State) : State :=
  { s with run := { s.run with state := .stopped, result := .startFailed, progress := .none } }

/-- Response to an adoption word write: OK ends it, and in STARTING ends the START sequence; ERROR sends the run to FAULT
(spec 10 R165; R47 to R49). -/
def adoptionWordAnswered (answer : WriteAnswer) (s : State) : State :=
  match answer with
  | .error => s.enterFault
  | .ok =>
    if s.run.state ≠ .starting then s
    else
      match s.run.progress with
      | .adopted => enterRunning s
      | .failed => endFailedStart s
      | .none | .linkWord | .poolTable | .plan => s

/-- The plan unit reports quiet: QUIET, no adoption word write waiting or admitted (R58). -/
def State.planQuiet (s : State) : Bool :=
  s.plan.fetch = .quiet && !s.waitingFor .adoptionWord && !(s.queue.entries.any fun e => e.role.isAdoptionWord)

end Sys2Proof.Machine
end

