-- ==== Sys2Proof/Machine/WriteArbiter.lean ====
section
/-! DEFINITION. The arbiter: admission of bookkeeping requests and row transactions to the write queue (spec 09 section 9.5). -/

namespace Sys2Proof.Machine

/-! ### The link tally (spec 05 R95, spec 11 Table 11-4) -/

/-- The 64 bytes of the link tally: the tracker's six counts and the receiver's four. -/
def linkTallyBytes (t : Tracker) (r : Receiver) : List Byte :=
  leBytes 4 t.framesStarted.toNat ++ leBytes 4 t.framesEnded.toNat ++ leBytes 4 t.framesTruncated.toNat
    ++ leBytes 4 r.headerErrors.toNat ++ leBytes 4 r.checkErrors.toNat ++ leBytes 4 r.lengthErrors.toNat
    ++ leBytes 4 t.orderErrors.toNat ++ leBytes 4 t.strayPackets.toNat ++ leBytes 4 r.lockLosses.toNat
    ++ leBytes 4 t.gapTimeouts.toNat ++ List.replicate 24 0

/-! ### Admission -/

/-- Buffer address of an offset in the slot a channel holds (log 10). -/
def Slot.at (slot : Slot) (offset : Nat) : DWord := slot.address + BitVec.ofNat 64 offset

/-- Control block offset of view tally k (spec 11 Table 11-5). -/
def tallyOffset (k : ViewId) : DWord := BitVec.ofNat 64 (0x200 + 32 * k.val)

/-- A metadata copy is admitted: the copy length from its bank, at buffer offset 256 (spec 08 R143). -/
def admitCopy (k : ViewId) (s : State) : State :=
  s.withFrame k fun v =>
    match v.slot with
    | some slot =>
      (s.setFrame k { v with copy := .outstanding }).enqueue (.metadataCopy k v.frameNumber) (slot.at 256)
        (s.tracker.banks[v.bank].bytes.take v.copyLength)
    | none => s

/-- A frame record is admitted, at buffer offset 0 (spec 06 R107). -/
def admitRecord (k : ViewId) (bytes : List Byte) (s : State) : State :=
  s.withFrame k fun v =>
    match v.slot with
    | some slot => s.enqueue (.frameRecord k) (slot.at 0) bytes
    | none => s

/-- A view tally is the one of its channel's closing step. -/
def Channel.isClosing (c : Channel) : Bool := c.frame.any fun v => v.closing

/-- A bookkeeping request is admitted; tallies and the adoption word carry the values as they stand now (R150; spec 11 R177). -/
def admitRequest (r : Request) (s : State) : State :=
  match r with
  | .metadataCopy k => admitCopy k s
  | .frameRecord k bytes => admitRecord k bytes s
  | .viewTally k =>
    s.enqueue (.viewTally k (s.channel k).isClosing) (s.blockAddress (tallyOffset k)) (tallyBytes (s.channel k).tally)
  | .linkTally => s.enqueue .linkTally (s.blockAddress 0x100) (linkTallyBytes s.tracker s.receiver)
  | .adoptionWord => s.enqueue .adoptionWord (s.blockAddress 0x080) (adoptionWordBytes s.plan.report)

/-- The channel is eligible for a row admission (R154). -/
def State.eligible (s : State) (k : ViewId) : Bool :=
  match (s.channel k).frame with
  | some v =>
    ((s.channel k).state = .active || (s.channel k).state = .flushing) && v.firstWrite = .exchanged && v.abandoned.isNone
      && !s.waitingFor (.metadataCopy k) && (nextTransaction v.staging).isSome && v.slot.isSome
  | none => false

/-- The channels from a pointer, going from 7 to 0 (R154). -/
def viewsFrom (pointer : ViewId) : List ViewId := allViews.map fun k => pointer + k

/-- The channel the round-robin takes (R154). -/
def State.roundRobin (s : State) : Option ViewId := (viewsFrom s.queue.pointer).find? s.eligible

/-- Bytes of transaction i of a row (R150). -/
def transactionData (bytes : List Byte) (i : Nat) : List Byte :=
  (bytes.drop (i * Config.transactionBytes)).take Config.transactionBytes

/-- A channel's next row transaction is admitted, and the pointer becomes the id after the channel (R150, R154). -/
def admitRow (k : ViewId) (s : State) : State :=
  s.withFrame k fun v =>
    match v.slot, nextTransaction v.staging with
    | some slot, some (row, i) =>
      let s := s.setFrame k { v with staging := markTransaction row.number i .outstanding v.staging }
      let s :=
        s.enqueue (.row k row.number i) (slot.at (v.sizes.rowOffset row.number + i * Config.transactionBytes))
          (transactionData row.bytes i)
      { s with queue := { s.queue with pointer := k + 1 } }
    | _, _ => s

/-- An entry is free, in a run state the arbiter admits in (R151, R153). -/
def State.entryFree (s : State) : Bool := s.queue.entries.length < Config.writeQueueSize && !s.halted

/-- The arbiter has something for a free entry (R153). -/
def State.canAdmit (s : State) : Bool := s.entryFree && (!s.queue.requests.isEmpty || s.roundRobin.isSome)

/-- One admission: the oldest bookkeeping request, or else a row transaction by round-robin (R153). -/
def admitOne (s : State) : State :=
  if s.entryFree then
    match s.queue.requests with
    | r :: rest => admitRequest r { s with queue := { s.queue with requests := rest } }
    | [] =>
      match s.roundRobin with
      | some k => admitRow k s
      | none => s
  else s

end Sys2Proof.Machine
end

