-- ==== Sys2Proof/Machine/MemoryPath.lean ====
section
/-! DEFINITION. The answers and responses of the memory path, each given to its owner, and the steps of it that the part takes between
two row notices (spec 02, 06, 07 R126, 09). -/

namespace Sys2Proof.Machine

/-- Response to a link tally write (spec 05 R95). -/
def linkTallyAnswered (answer : WriteAnswer) (s : State) : State :=
  match answer with
  | .error => s.enterFault
  | .ok => s

/-! ### Answers, each to its owner -/

/-- The answer to a slot record read reaches its scanner (spec 02 R41). -/
def takeSlotRead (tag : Nat) (answer : ReadAnswer 128) (s : State) : State :=
  s.answered tag PortRole.asSlotRead fun p => slotReadAnswered answer p

/-- The answer to a claim reaches its scanner (spec 02 R42). -/
def takeClaim (tag : Nat) (answer : CasAnswer) (s : State) : State :=
  s.answered tag PortRole.asClaim fun p => claimAnswered answer p

/-- The answer to a refusal reaches its scanner (spec 02 R29). -/
def takeRefusal (tag : Nat) (answer : CasAnswer) (s : State) : State :=
  s.answered tag PortRole.asRefusal fun p => refusalAnswered answer p

/-- The answer to a first write reaches its channel (spec 06 R103). -/
def takeFirstWrite (tag : Nat) (answer : CasAnswer) (s : State) : State :=
  s.answered tag PortRole.asFirstWrite fun k => firstWriteAnswered answer k

/-- The answer to the return of a slot reaches its channel (spec 06 R108). -/
def takeReturn (tag : Nat) (answer : CasAnswer) (s : State) : State :=
  s.answered tag PortRole.asGiveBack fun k => returnAnswered answer k

/-- The answer to a sealing reaches its channel (spec 06 R107). -/
def takeSealing (tag : Nat) (answer : CasAnswer) (s : State) : State :=
  s.answered tag PortRole.asSealing fun k => sealingAnswered answer k

/-- The response to a row transaction reaches its channel (spec 09 R155). -/
def takeRowWrite (tag : Nat) (answer : WriteAnswer) (s : State) : State :=
  s.responded tag WriteRole.asRow fun x => rowAnswered answer x.1 x.2.1 x.2.2

/-- The response to a metadata copy reaches its channel (spec 09 R156). -/
def takeMetadataCopy (tag : Nat) (answer : WriteAnswer) (s : State) : State :=
  s.responded tag WriteRole.asMetadataCopy fun x => copyAnswered answer x.1 x.2

/-- The response to a frame record write reaches its channel (spec 06 R107). -/
def takeFrameRecord (tag : Nat) (answer : WriteAnswer) (s : State) : State :=
  s.responded tag WriteRole.asFrameRecord fun k => frameRecordAnswered answer k

/-- The response to a view tally write reaches its channel (spec 06 R109). -/
def takeViewTally (tag : Nat) (answer : WriteAnswer) (s : State) : State :=
  s.responded tag WriteRole.asViewTally fun x => viewTallyAnswered answer x.1 x.2

/-- The response to a link tally write reaches the tracker (spec 05 R95). -/
def takeLinkTally (tag : Nat) (answer : WriteAnswer) (s : State) : State :=
  s.responded tag WriteRole.asLinkTally fun _ => linkTallyAnswered answer

/-- The response to an adoption word write reaches the plan unit (spec 03 R47, 10 R165). -/
def takeAdoptionWord (tag : Nat) (answer : WriteAnswer) (s : State) : State :=
  s.responded tag WriteRole.asAdoptionWord fun _ => adoptionWordAnswered answer

/-! ### Between two row notices (spec 07 R126, 09 R149, R153; log 26) -/

/-- The answer of a compare-exchange that did not fail. -/
def casAnswer (exchanged : Bool) : CasAnswer := if exchanged then .exchanged else .notExchanged

/-- A step of the memory path. -/
def performStep (x : MemoryStep) (s : State) : State :=
  match x with
  | .admission => admitOne s
  | .rowWriteResponse tag answer => takeRowWrite tag answer s
  | .metadataCopyResponse tag answer => takeMetadataCopy tag answer s
  | .frameRecordResponse tag => takeFrameRecord tag .ok s
  | .viewTallyResponse tag => takeViewTally tag .ok s
  | .linkTallyResponse tag => takeLinkTally tag .ok s
  | .adoptionWordResponse tag => takeAdoptionWord tag .ok s
  | .claimServiceStart pool => startService pool s
  | .slotReadAnswer tag answer => takeSlotRead tag answer s
  | .claimAnswer tag answer => takeClaim tag answer s
  | .refusalAnswer tag answer => takeRefusal tag answer s
  | .firstWriteAnswer tag exchanged => takeFirstWrite tag (casAnswer exchanged) s
  | .returnAnswer tag exchanged => takeReturn tag (casAnswer exchanged) s
  | .sealingAnswer tag exchanged => takeSealing tag (casAnswer exchanged) s
  | .sealingEntry view => enterSealing view s

/-- A step between two row notices is taken. In STARTING no frame is in progress, and none is taken (spec 05 R79; log 26). -/
def takeMemoryStep (x : MemoryStep) (s : State) : State := if s.run.state = .starting then s else performStep x s

end Sys2Proof.Machine
end

