-- ==== Sys2Proof/Machine/FrameTracking.lean ====
section
/-! DEFINITION. The frame tracker: frame starts, metadata, row resolution, frame ends, truncation, strays, the link tally
(spec 05). -/

namespace Sys2Proof.Machine

/-! ### Gap deadline (R92) -/

/-- The deadline set from now by the frame's gap limit; 0 means none (R92). -/
def deadlineFrom (now : DWord) (limit : Word) : Option DWord := if limit = 0 then none else some (now + limit.setWidth 64)

/-- An item taken in frame restarts the deadline, discarded or not (R92). -/
def restartDeadline (s : State) : State :=
  if s.inFrame then s.setTracker { s.tracker with deadline := deadlineFrom s.timebase s.tracker.gapLimit } else s

/-! ### Metadata (R86, R87) -/

/-- A bank with an accepted META_ROW appended: bytes beyond offset 4095 are dropped and the truncated flag set (R86). -/
def Bank.append (b : Bank) (payload : List Byte) : Bank :=
  { bytes := (b.bytes ++ payload).take Config.bankBytes
    rows := b.rows + 1
    truncated := b.truncated || Config.bankBytes < b.bytes.length + payload.length }

/-- The bank that receives the current frame's metadata. -/
def Tracker.bank (t : Tracker) : Bank := t.banks[t.currentBank]

/-- Leaving HEADER closes the metadata: every channel is given its byte count and truncated flag (R87). -/
def closeMetadata (s : State) : State :=
  if s.tracker.state = .header then
    s.eachView (metadataNotice s.tracker.bank.bytes.length s.tracker.bank.truncated)
  else s

/-- A META_ROW is taken (R86, R94). -/
def takeMetaRow (payload : List Byte) (s : State) : State :=
  match s.tracker.state with
  | .idle => s.setTracker { s.tracker with strayPackets := s.tracker.strayPackets + 1 }
  | .body => restartDeadline (s.setTracker { s.tracker with orderErrors := s.tracker.orderErrors + 1 })
  | .header =>
    if s.tracker.bank.rows < Config.metaRows then
      restartDeadline
        (s.setTracker
          { s.tracker with banks := s.tracker.banks.set s.tracker.currentBank (s.tracker.bank.append payload) })
    else restartDeadline (s.setTracker { s.tracker with orderErrors := s.tracker.orderErrors + 1 })

/-! ### Row resolution (R88, R89) -/

/-- The steps of the memory path that come before the notice of a row are taken, in their order (spec 07 R126; log 26). -/
def takeBetween (between : List NoticeStep) (row : Nat) (s : State) : State :=
  (between.filter fun a => a.row = row).foldl (fun s a => takeMemoryStep a.step s) s

/-- A row is resolved: every channel is given its row notice, at the timebase value of the event (R89). -/
def resolveRow (between : List NoticeStep) (payload : Option (List Byte)) (row : Nat) (s : State) : State :=
  (takeBetween between row s).eachView (rowNotice s.timebase row payload)

/-- `count` rows from `first` are resolved missing, in increasing order (R88). -/
def resolveMissing (between : List NoticeStep) (first count : Nat) (s : State) : State :=
  (List.range' first count).foldl (fun s row => resolveRow between none row s) s

/-- A PIXEL_ROW is taken (R88, R94). -/
def takePixelRow (between : List NoticeStep) (row : Nat) (payload : List Byte) (s : State) : State :=
  if s.tracker.state = .idle then s.setTracker { s.tracker with strayPackets := s.tracker.strayPackets + 1 }
  else
    let s := closeMetadata s
    let s := restartDeadline (s.setTracker { s.tracker with state := .body })
    if row < s.tracker.nextRow ∨ s.tracker.height.toNat ≤ row then
      s.setTracker { s.tracker with orderErrors := s.tracker.orderErrors + 1 }
    else
      let s := resolveMissing between s.tracker.nextRow (row - s.tracker.nextRow) s
      let s := resolveRow between (some payload) row s
      s.setTracker { s.tracker with nextRow := row + 1 }

/-! ### Frame end and truncation (R90, R91) -/

/-- The end of a frame asks for the link tally write and reaches the plan unit (R90, R91, R95). -/
def announceEnd (s : State) : State := frameEndFetch (s.ask .linkTally)

/-- A FRAME_END is taken (R90, R94). -/
def takeFrameEnd (between : List NoticeStep) (number : Half) (s : State) : State :=
  if s.tracker.state = .idle then s.setTracker { s.tracker with strayPackets := s.tracker.strayPackets + 1 }
  else
    let s := closeMetadata s
    let s := resolveMissing between s.tracker.nextRow (s.tracker.height.toNat - s.tracker.nextRow) s
    announceEnd
      (s.setTracker
        { s.tracker with
          state := .idle
          deadline := none
          nextRow := s.tracker.height.toNat
          framesEnded := s.tracker.framesEnded + 1
          orderErrors :=
            if number = s.tracker.frameNumber then s.tracker.orderErrors else s.tracker.orderErrors + 1 })

/-- A frame in progress is truncated with a cause of Table 5-4: counted, the channels told, the link tally asked for and the frame
end given to the plan unit; no row is resolved (R91). Out of frame it changes nothing (R93). -/
def truncateFrame (cause : OutcomeCause) (s : State) : State :=
  if s.tracker.state = .idle then s
  else
    let s := closeMetadata s
    let s :=
      s.setTracker
        { s.tracker with
          state := .idle
          deadline := none
          framesTruncated := s.tracker.framesTruncated + 1
          gapTimeouts := if cause = .gapTimeout then s.tracker.gapTimeouts + 1 else s.tracker.gapTimeouts }
    announceEnd (s.eachView (truncationNotice cause s.timebase))

/-! ### Frame start (R81 to R85) -/

/-- The other bank. -/
def otherBank (b : BankId) : BankId := if b = 0 then 1 else 0

/-- A new frame begins: its values recorded, the bank not used by the previous frame made current and cleared, due copies from
that bank cancelled in the same event, the frame counted (R81; spec 09 R157). -/
def beginFrame (number width height : Half) (depth : Byte) (s : State) : State :=
  let bank := otherBank s.tracker.currentBank
  let s := s.eachView (cancelCopy bank)
  s.setTracker
    { s.tracker with
      state := .header
      frameNumber := number
      width := width
      height := height
      depth := depth
      startTime := s.timebase
      nextRow := 0
      currentBank := bank
      banks := s.tracker.banks.set bank Bank.empty
      framesStarted := s.tracker.framesStarted + 1 }

/-- Gap limit of the adopted plan. -/
def PlanUnit.gapLimit (p : PlanUnit) : Word :=
  match p.adopted with
  | some x => x.gapLimit
  | none => 0

/-- The frame's gap limit is taken from the adopted plan and the deadline armed (R82). -/
def armGap (s : State) : State :=
  s.setTracker
    { s.tracker with gapLimit := s.plan.gapLimit, deadline := deadlineFrom s.tracker.startTime s.plan.gapLimit }

/-- View k selects the frame: enabled, and the frame number modulo every equals the phase (R83). -/
def Plan.selects (p : Plan) (k : ViewId) (frameNumber : Half) : Bool :=
  enabledIn p.mask k && frameNumber.toNat % p.views[k].every == p.views[k].phase

/-- The frame's format differs from the adopted plan's (R84). -/
def Plan.mismatch (p : Plan) (t : Tracker) : Bool := p.width != t.width || p.height != t.height || p.depth != t.depth

/-- Disposition of view k at a frame start (Table 5-3). -/
def disposition (run : RunState) (gap : Bool) (p : Plan) (t : Tracker) (k : ViewId) : Disposition :=
  if run ≠ .running then .notOffered
  else if p.selects k t.frameNumber = false then .notOffered
  else if gap then .skips .adopting
  else if p.mismatch t then .skips .formatMismatch
  else .opens

/-- A format mismatch is raised once for the frame, in RUNNING outside an adoption gap (R84). -/
def raiseMismatch (gap : Bool) (s : State) : State :=
  match s.plan.adopted with
  | some p => if s.run.state = .running ∧ gap = false ∧ p.mismatch s.tracker = true then s.raise .formatMismatch else s
  | none => s

/-- The frame start notice to one channel: first its effect on a view frame in progress, then the view's disposition
(R85; spec 06 R99, R101). -/
def frameStartNotice (gap : Bool) (k : ViewId) (s : State) : State :=
  let s := overtake s.timebase k s
  match s.plan.adopted with
  | some p =>
    takeDisposition p s.tracker.frameNumber s.tracker.startTime s.tracker.currentBank k
      (disposition s.run.state gap p s.tracker k) s
  | none => s

/-- A FRAME_START is taken: an open frame is truncated, the new frame begins, the plan unit decides the plan, and every channel is
given the frame start notice (R81 to R85). -/
def takeFrameStart (number width height : Half) (depth : Byte) (s : State) : State :=
  let s := truncateFrame .truncated s
  let s := beginFrame number width height depth s
  let gap := s.adoptionGap
  let s := armGap (planFrameStart number s)
  let s := raiseMismatch gap s
  s.eachView (frameStartNotice gap)

/-! ### Quiescence -/

/-- The tracker reports quiet: IDLE, no link tally request waiting or admitted (R79, R96). -/
def State.trackerQuiet (s : State) : Bool :=
  s.tracker.state = .idle && !s.waitingFor .linkTally && !(s.queue.entries.any fun e => e.role.isLinkTally)

end Sys2Proof.Machine
end

