-- ==== Sys2Proof/Machine/LinkReceiver.lean ====
section
/-! DEFINITION. The link receiver: alignment, headers, boundaries, packets (spec 04). Bytes that arrive are held until an event takes
them (log 6, log 21). -/

namespace Sys2Proof.Machine

/-! ### Bytes (R61, R62) -/

/-- Something for each lane. -/
def perLane (f : LaneId → α) : Vector α 4 := #v[f 0, f 1, f 2, f 3]

/-- Bytes that arrive in successive byte periods, the first in period `t`. -/
def arriving : List Byte → Nat → List LaneByte
  | [], _ => []
  | b :: rest, t => { value := b, arrival := t } :: arriving rest (t + 1)

/-- Nothing arrives but on one lane. -/
def onlyLane (lane : LaneId) (run : LaneRun) : LaneRuns :=
  perLane fun j => if j = lane then run else { bytes := [], arrival := 0 }

/-- Bytes arrive: a lane in use holds them; OFF ignores every byte (R61, R62, R68). -/
def Receiver.receive (r : Receiver) (runs : LaneRuns) : Receiver :=
  if r.state = .off then r
  else
    { r with
      held := perLane fun j =>
        if j.val < r.lanes then r.held[j] ++ arriving runs[j].bytes runs[j].arrival else r.held[j] }

def State.receive (s : State) (runs : LaneRuns) : State := s.setReceiver (s.receiver.receive runs)

/-- The bytes the lanes hold. -/
def Receiver.bytes (r : Receiver) : LaneBytes := perLane fun j => r.held[j].map LaneByte.value

/-- The oldest bytes each lane holds are taken. -/
def Receiver.consume (r : Receiver) (count : LaneId → Nat) : Receiver :=
  { r with held := perLane fun j => r.held[j].drop (count j) }

/-- The lanes in use: lanes 0 to L - 1 (R61). -/
def Receiver.lanesInUse (r : Receiver) : List LaneId := [0, 1, 2, 3].filter fun j : LaneId => j.val < r.lanes

/-- The bytes lane j carries after the header to the end of the extent of the packet in progress (R61, R63). -/
def Receiver.extent (r : Receiver) (j : LaneId) : Nat :=
  match r.packet with
  | some h => laneShare r.lanes (bodyBytes (headerLength h)) j.val
  | none => 0

/-- Every lane in use holds `count` bytes beyond the extent of the packet in progress. -/
def Receiver.holdsBeyond (r : Receiver) (count : Nat) : Bool :=
  r.lanesInUse.all fun j => r.extent j + count ≤ r.held[j].length

/-! ### Alignment (R62, R69) -/

/-- The latest arrival is within the skew allowance of the earliest (R62). -/
def withinAllowance (arrivals : List Nat) : Bool :=
  arrivals.all fun a => arrivals.all fun b => a ≤ b + Config.skewAllowance

/-- The four bytes lane j carries at the end of the extent. -/
def Receiver.boundaryBytes (r : Receiver) (j : LaneId) : List LaneByte := (r.held[j].drop (r.extent j)).take 4

/-- At the end of the extent every lane in use carries the alignment word, within the skew allowance (R62). -/
def Receiver.aligned (r : Receiver) : Bool :=
  (r.lanesInUse.all fun j => (r.boundaryBytes j).map LaneByte.value = alignmentWord)
    && withinAllowance (r.lanesInUse.filterMap fun j => (r.boundaryBytes j).head?.map LaneByte.arrival)

/-- A boundary that is present is passed: extent and alignment word are taken, and the header follows (R70, R74). -/
def Receiver.passBoundary (r : Receiver) : Receiver :=
  { r.consume (fun j => r.extent j + 4) with phase := .header, packet := none }

/-- An alignment word found on a lane: the arrival of its first byte, and the bytes that follow it (R69). -/
structure WordMatch where
  lane : LaneId
  arrival : Nat
  rest : List LaneByte
deriving DecidableEq, Repr

/-- The first run of four successive bytes that is the alignment word (R69). -/
def findWord (lane : LaneId) : List LaneByte → Option WordMatch
  | [] => none
  | b :: rest =>
    if ((b :: rest).take 4).map LaneByte.value = alignmentWord then
      some { lane := lane, arrival := b.arrival, rest := rest.drop 3 }
    else findWord lane rest

/-- Every lane in use holds a position, within the skew allowance (R69). -/
def Receiver.positioned (r : Receiver) : Bool :=
  (r.lanesInUse.all fun j => r.positions[j].isSome)
    && withinAllowance (r.lanesInUse.filterMap fun j => r.positions[j])

/-- The receiver searches for a boundary: HUNT, or LOCKED after a failed header check (R69, R72). -/
def Receiver.searching (r : Receiver) : Bool := r.state = .hunt || (r.state = .locked && r.phase = .search)

/-- Positions complete a search: HUNT enters VERIFY with a verify count of 0 (R69); LOCKED takes them as the next boundary
(R72). The header follows. -/
def Receiver.takeBoundary (r : Receiver) : Receiver :=
  if r.positioned then
    match r.state with
    | .hunt => { r with state := .verify, verifyCount := 0, phase := .header, packet := none }
    | .locked => { r with phase := .header, packet := none }
    | .off | .verify => r
  else r

/-- A match records its lane's position, a later one replacing the earlier; the bytes that follow the word stay held, as the lane's
share of the next packet; then the positions are tested (R69). -/
def Receiver.takeMatch (r : Receiver) (m : WordMatch) : Receiver :=
  { r with positions := r.positions.set m.lane (some m.arrival), held := r.held.set m.lane m.rest }.takeBoundary

/-- The alignment word on one lane, while searching (R69). -/
def Receiver.matchOn (r : Receiver) (lane : LaneId) : Receiver :=
  if r.searching ∧ lane.val < r.lanes then
    match findWord lane r.held[lane] with
    | some m => r.takeMatch m
    | none => r
  else r

def takeMatch (lane : LaneId) (s : State) : State := s.setReceiver (s.receiver.matchOn lane)

/-- The earliest of some matches; of two that arrived together, the one on the lower lane (log 11). -/
def earliest : List WordMatch → Option WordMatch
  | [] => none
  | m :: rest =>
    match earliest rest with
    | none => some m
    | some n => if m.arrival ≤ n.arrival then some m else some n

/-- The next match in the order of arrival over the lanes in use. -/
def Receiver.nextMatch (r : Receiver) : Option WordMatch := earliest (r.lanesInUse.filterMap fun j => findWord j r.held[j])

/-- At most `n` matches are taken, in the order of arrival, until they make a boundary (R72). -/
def Receiver.search : Nat → Receiver → Receiver
  | 0, r => r
  | n + 1, r =>
    if r.state = .locked ∧ r.phase = .search then
      match r.nextMatch with
      | some m => (r.takeMatch m).search n
      | none => r
    else r

/-- How many bytes the lanes hold: the search finds fewer words. -/
def Receiver.heldCount (r : Receiver) : Nat := ([0, 1, 2, 3].map fun j : LaneId => r.held[j].length).sum

/-- The search of rule R72 goes through the bytes held, to the next boundary if they show one. -/
def searchBoundary (s : State) : State := s.setReceiver (s.receiver.search s.receiver.heldCount)

/-! ### VERIFY (R70) -/

/-- The header that follows a boundary, once its bytes are held on every lane, and the receiver with them taken (R61). -/
def Receiver.takeHeader (r : Receiver) : Option (BitVec 64 × Receiver) :=
  (rebuild r.lanes r.bytes 8).map fun bytes => (headerOf bytes, r.consume fun j => laneShare r.lanes 8 j.val)

/-- Largest payload length a kind accepts in VERIFY (R70). -/
def largestLength : PacketKind → Nat
  | .frameStart => 5
  | .metaRow => 4096
  | .pixelRow => Config.longestRow
  | .frameEnd => 0
  | .fill => 0

/-- A header passes in VERIFY (R70). -/
def passesVerify (lanes : Nat) (h : BitVec 64) : Bool :=
  headerGood lanes h &&
    match headerKind h with
    | some kind => headerLength h ≤ largestLength kind
    | none => false

/-- A header judged in VERIFY (R70). -/
def Receiver.judgeVerify (r : Receiver) (h : BitVec 64) : Receiver :=
  if passesVerify r.lanes h then { r with verifyCount := r.verifyCount + 1, phase := .boundary, packet := some h }
  else r.enterHunt

/-- The header awaited in VERIFY is judged once it is rebuilt (R61, R70). -/
def Receiver.verifyHeader (r : Receiver) : Receiver :=
  if r.state = .verify ∧ r.phase = .header then
    match r.takeHeader with
    | some (h, r) => r.judgeVerify h
    | none => r
  else r

def takeVerifyHeader (s : State) : State := s.setReceiver s.receiver.verifyHeader

/-- The boundary in VERIFY after the first or second header that passed, at the end of its extent (R70). -/
def Receiver.verifyBoundary (r : Receiver) : Receiver :=
  if r.state = .verify ∧ r.phase = .boundary ∧ r.verifyCount < Config.verifyHeaders ∧ r.holdsBeyond 4 = true then
    if r.aligned then r.passBoundary else r.enterHunt
  else r

def takeVerifyBoundary (s : State) : State := s.setReceiver s.receiver.verifyBoundary

/-- The extent of the third header that passed has ended: every lane holds it (R70). -/
def Receiver.canLock (r : Receiver) : Bool :=
  r.state = .verify && r.phase = .boundary && r.verifyCount == Config.verifyHeaders && r.holdsBeyond 0

/-- The receiver enters LOCKED: consecutive count 0, LINK_LOCKED raised; the next boundary is the first LOCKED checks (R70). -/
def endVerify (s : State) : State :=
  if s.receiver.canLock then
    (s.setReceiver
      { s.receiver.consume s.receiver.extent with state := .locked, badCount := 0, packet := none }).raise .linkLocked
  else s

/-! ### LOCKED (R71 to R74) -/

/-- Loss of lock: packet dropped, lock loss counted, LINK_LOST raised, HUNT entered, and a loss notice passed to the tracker
(R74; spec 05 R93). -/
def loseLock (s : State) : State :=
  truncateFrame .linkLost
    ((s.setReceiver { s.receiver.enterHunt with lockLosses := s.receiver.lockLosses + 1 }).raise .linkLost)

/-- A boundary taken from a trusted extent in LOCKED (R74). -/
def takeLockedBoundary (s : State) : State :=
  if s.receiver.state = .locked ∧ s.receiver.phase = .boundary ∧ s.receiver.holdsBeyond 4 = true then
    if s.receiver.aligned then s.setReceiver s.receiver.passBoundary else loseLock s
  else s

/-- The payload length is accepted for its kind, as the tracker stands (R65). -/
def State.lengthAccepted (s : State) (kind : PacketKind) (n : Nat) : Bool :=
  match kind with
  | .frameStart => n = 5
  | .metaRow => 1 ≤ n && n ≤ 4096
  | .frameEnd => n = 0
  | .fill => n = 0
  | .pixelRow =>
    if s.inFrame then n = requiredRowLength s.tracker.width.toNat s.tracker.depth.toNat else n ≤ Config.longestRow

/-- A good header in LOCKED: the consecutive count becomes 0, and the length is checked (R71, R73). -/
def takeGoodHeader (h : BitVec 64) (kind : PacketKind) (s : State) : State :=
  if s.lengthAccepted kind (headerLength h) then
    s.setReceiver { s.receiver with badCount := 0, phase := .payload, packet := some h }
  else
    s.setReceiver
      { s.receiver with
        badCount := 0, phase := .boundary, packet := some h, lengthErrors := s.receiver.lengthErrors + 1 }

/-- A header that is not good in LOCKED: counted; the second in succession loses the lock; otherwise its extent is passed over if
its check passes, and the next boundary is searched for if not (R72). -/
def takeBadHeader (h : BitVec 64) (s : State) : State :=
  let r :=
    { s.receiver with headerErrors := s.receiver.headerErrors + 1, badCount := s.receiver.badCount + 1 }
  if Config.badHeaderLimit ≤ r.badCount then loseLock (s.setReceiver r)
  else if headerCheckPasses h then s.setReceiver { r with phase := .boundary, packet := some h }
  else s.setReceiver { r with phase := .search, packet := none, positions := #v[none, none, none, none] }

/-- A header judged in LOCKED (R72). -/
def judgeLocked (h : BitVec 64) (s : State) : State :=
  match headerGood s.receiver.lanes h, headerKind h with
  | true, some kind => takeGoodHeader h kind s
  | _, _ => takeBadHeader h s

/-- The header awaited in LOCKED is judged once it is rebuilt (R61, R72). -/
def takeLockedHeader (s : State) : State :=
  if s.receiver.state = .locked ∧ s.receiver.phase = .header then
    match s.receiver.takeHeader with
    | some (h, r) => judgeLocked h (s.setReceiver r)
    | none => s
  else s

/-- Width, height and depth of a FRAME_START payload (R66, spec 11 Table 11-13). -/
def formatOf (payload : List Byte) : Half × Half × Byte :=
  (BitVec.ofNat 16 (leValue (payload.take 2)), BitVec.ofNat 16 (leValue ((payload.drop 2).take 2)), payload.getD 4 0)

/-- A complete packet is passed to the frame tracker, or consumed if FILL (R71, R75). -/
def passPacket (between : List NoticeStep) (h : BitVec 64) (payload : List Byte) (s : State) : State :=
  match headerKind h with
  | some .frameStart =>
    takeFrameStart (headerNumber h) (formatOf payload).1 (formatOf payload).2.1 (formatOf payload).2.2 s
  | some .metaRow => takeMetaRow payload s
  | some .pixelRow => takePixelRow between (headerNumber h).toNat payload s
  | some .frameEnd => takeFrameEnd between (headerNumber h) s
  | some .fill => s
  | none => s

/-- The trailer check passes, or the payload is empty and there is no trailer (R66). -/
def trailerPasses (n : Nat) (body : List Byte) : Bool :=
  n = 0 || leValue ((body.drop n).take 4) == (crc32 (body.take n)).toNat

/-- The receiver once the extent of an accepted packet is taken: the next boundary follows. -/
def Receiver.endPacket (r : Receiver) : Receiver := { r.consume r.extent with phase := .boundary, packet := none }

/-- All bytes of an accepted packet have arrived: its trailer is checked, and it is passed on or counted a check error
(R71, R73). -/
def completePacket (between : List NoticeStep) (h : BitVec 64) (body : List Byte) (s : State) : State :=
  if trailerPasses (headerLength h) body then
    passPacket between h (body.take (headerLength h)) (s.setReceiver s.receiver.endPacket)
  else s.setReceiver { s.receiver.endPacket with checkErrors := s.receiver.checkErrors + 1 }

/-- The packet in progress completes once every lane holds its share of the extent (R61, R71). -/
def takePacket (between : List NoticeStep) (s : State) : State :=
  match s.receiver.packet with
  | none => s
  | some h =>
    if s.receiver.state = .locked ∧ s.receiver.phase = .payload then
      match rebuild s.receiver.lanes s.receiver.bytes (bodyBytes (headerLength h)) with
      | some body => completePacket between h body s
      | none => s
    else s

end Sys2Proof.Machine
end

