-- ==== Sys2Proof/Machine/RunController.lean ====
section
/-! DEFINITION. The run controller: commands, the START sequence, quiescence (spec 10). -/

namespace Sys2Proof.Machine

/-! ### Commands (R163, Table 10-5) -/

/-- ANCHOR is a multiple of 4096 (R164). -/
def State.anchorAligned (s : State) : Bool := s.run.anchor.toNat % 4096 == 0

/-- START (R164): accepted in STOPPED with ANCHOR aligned; the link word read is issued. -/
def takeStart (s : State) : State :=
  if s.run.state ≠ .stopped then s.record .refusedState
  else if s.anchorAligned = false then s.record .refusedAnchor
  else
    (((s.record .accepted).setRunState .starting).setProgress .linkWord).issue .linkWord (.read (s.blockAddress 0x008) 4)

/-- STOP (R167): accepted in RUNNING; a fetch in flight is marked for discard. -/
def takeStop (s : State) : State :=
  if s.run.state = .running then markDiscard ((s.record .accepted).setRunState .stopping) else s.record .refusedState

/-- The abort is passed to every channel and to the tracker (R168). R114 leaves open whether a channel takes the ABORT or the tracker's
notices first; here it takes the ABORT first, since R142 has a view frame abandoned by ABORT in HEADER write nothing (log 24). -/
def abortBlocks (s : State) : State := truncateFrame .aborted (s.eachView (abortChannel s.timebase))

/-- ABORT (R166, R168): accepted in STARTING, RUNNING and STOPPING. -/
def takeAbort (s : State) : State :=
  let accepted := markDiscard (((s.record .accepted).setRunState .aborting).setProgress .none)
  match s.run.state with
  | .starting => accepted
  | .running | .stopping => abortBlocks accepted
  | .stopped | .aborting | .fault => s.record .refusedState

/-- CLEAR_FAULT (R171): accepted in FAULT with nothing outstanding, else BUSY. -/
def takeClearFault (s : State) : State :=
  if s.run.state ≠ .fault then s.record .refusedState
  else if s.outstandingCount = 0 then (s.record .accepted).setRunState .stopped
  else s.record .busy

/-- A write to RUN, judged by its 32-bit code (R163). -/
def writeRun (code : Word) (s : State) : State :=
  if code = 1 then takeStart s
  else if code = 2 then takeStop s
  else if code = 3 then takeAbort s
  else if code = 4 then takeClearFault s
  else if code = 5 then s.softReset
  else s.record .refusedCode

/-- ANCHOR's low half, replaced in STOPPED (R162). -/
def writeAnchorLo (value : Word) (s : State) : State :=
  if s.run.state = .stopped then
    { s with run := { s.run with anchor := s.run.anchor.extractLsb' 32 32 ++ value } }
  else s

/-- ANCHOR's high half, replaced in STOPPED (R162). -/
def writeAnchorHi (value : Word) (s : State) : State :=
  if s.run.state = .stopped then
    { s with run := { s.run with anchor := value ++ s.run.anchor.extractLsb' 0 32 } }
  else s

/-- A write of 32 bits to the register window (R160): read-only and unlisted writes are ignored. -/
def writeRegister (offset : Nat) (value : Word) (s : State) : State :=
  if offset = 0x04 then writeRun value s
  else if offset = 0x08 then s.clearFlags value
  else if offset = 0x0C then s.setEnables value
  else if offset = 0x10 then writeAnchorLo value s
  else if offset = 0x14 then writeAnchorHi value s
  else s

/-- A write of `width` bytes to the register window (R160): 64 bits are two writes of 32 bits, the lower offset first; a narrower
write is ignored, and so is a width the window does not have (log 16). -/
def writeWindow (offset width : Nat) (value : DWord) (s : State) : State :=
  if width = 4 then writeRegister offset (value.extractLsb' 0 32) s
  else if width = 8 ∧ offset % 8 = 0 then
    writeRegister (offset + 4) (value.extractLsb' 32 32) (writeRegister offset (value.extractLsb' 0 32) s)
  else s

/-! ### The START sequence (R164, R165) -/

/-- Answer to the link word read (R164; spec 01 R4). -/
def linkWordAnswered (answer : ReadAnswer 32) (s : State) : State :=
  if s.run.state ≠ .starting then s
  else
    match answer with
    | .error => s.enterFault
    | .ok data =>
      if laneCountOk data.toNat then
        { s with run := { s.run with lanesRead := data.toNat, progress := .poolTable } }.issue .poolTable
          (.read (s.blockAddress 0x040) 64)
      else failStart 0 .badLinkWord 0xFF s

/-- Answer to the pool table read (R164; spec 01 R5). -/
def poolTableAnswered (answer : ReadAnswer 512) (s : State) : State :=
  if s.run.state ≠ .starting then s
  else
    match answer with
    | .error => s.enterFault
    | .ok data =>
      match poolTable s.run.anchor data with
      | some pools => readSelector .startSelector { s with run := { s.run with pools := pools, progress := .plan } }
      | none => failStart 0 .badPoolTable 0xFF s

/-! ### Reaching STOPPED (R169) -/

/-- The condition of rule R169. -/
def State.quiescent (s : State) : Bool :=
  s.trackerQuiet && (allViews.all s.channelQuiet) && s.planQuiet && s.outstandingCount == 0

/-- A STOPPING or ABORTING run can pass to STOPPED. -/
def State.canStop (s : State) : Bool :=
  (s.run.state = .stopping || s.run.state = .aborting) && s.quiescent

/-- The run enters STOPPED: receiver OFF, pending plan discarded without counting, RUN_STOPPED raised; the result is kept
(R169). -/
def reachStopped (s : State) : State :=
  if s.canStop then
    (((s.setRunState .stopped).setReceiver s.receiver.enterOff).setPlan { s.plan with candidate := none }).raise .runStopped
  else s

/-! ### The gap deadline (spec 05 R92; log 5) -/

/-- The timebase reaches the armed deadline in frame: the frame is truncated with GAP_TIMEOUT. -/
def expireGap (s : State) : State :=
  match s.tracker.deadline with
  | some d => if s.inFrame then truncateFrame .gapTimeout { s with timebase := d } else s
  | none => s

/-! ### What the part does of itself (log 4) -/

/-- The step the part takes next when no command waits, if there is one. -/
def State.ownStep (s : State) : Option Instr :=
  if s.inFrame ∧ s.tracker.deadline = some s.timebase then some .gapTimeout
  else if s.canStop then some .runStopped
  else
    match allViews.find? s.readyToSeal with
    | some k => some (.sealingEntry k)
    | none =>
      if s.canAdmit then some .admission
      else (allPools.find? s.canServe).map .claimServiceStart

/-- With no command waiting the part posts its own next step, or one microsecond passes. -/
def State.idle (s : State) : State :=
  match s.ownStep with
  | some c => { s with pending := [c] }
  | none => { s with timebase := s.timebase + 1 }

end Sys2Proof.Machine
end

