-- ==== Sys2Proof/Machine/ClaimEvents.lean ====
section
/-! DEFINITION. Meanings of the claim steps and of the answers to slot transactions (spec 02, 06). -/

namespace Sys2Proof.Machine

/-- CLAIM_SERVICE_START (R40). -/
def execClaimServiceStart (pool : PoolId) (s : State) : Host.Outcome State Fault Refusal :=
  .next (startService pool s)

/-- SLOT_READ_ANSWER (R41). -/
def execSlotReadAnswer (tag : Nat) (answer : ReadAnswer 128) (s : State) : Host.Outcome State Fault Refusal :=
  .next (takeSlotRead tag answer s)

/-- CLAIM_ANSWER (R42). -/
def execClaimAnswer (tag : Nat) (answer : CasAnswer) (s : State) : Host.Outcome State Fault Refusal :=
  .next (takeClaim tag answer s)

/-- REFUSAL_ANSWER (R29). -/
def execRefusalAnswer (tag : Nat) (answer : CasAnswer) (s : State) : Host.Outcome State Fault Refusal :=
  .next (takeRefusal tag answer s)

/-- FIRST_WRITE_ANSWER (R103). -/
def execFirstWriteAnswer (tag : Nat) (answer : CasAnswer) (s : State) : Host.Outcome State Fault Refusal :=
  .next (takeFirstWrite tag answer s)

/-- RETURN_ANSWER (R108). -/
def execReturnAnswer (tag : Nat) (answer : CasAnswer) (s : State) : Host.Outcome State Fault Refusal :=
  .next (takeReturn tag answer s)

/-- SEALING_ANSWER (R107). -/
def execSealingAnswer (tag : Nat) (answer : CasAnswer) (s : State) : Host.Outcome State Fault Refusal :=
  .next (takeSealing tag answer s)

end Sys2Proof.Machine
end

