-- ==== Sys2Proof/Machine/ControlBlockAnswers.lean ====
section
/-! DEFINITION. Meanings of the answers to the control block reads (spec 01, 03, 10). -/

namespace Sys2Proof.Machine

/-- LINK_WORD_ANSWER (R164, R4). -/
def execLinkWordAnswer (tag : Nat) (answer : ReadAnswer 32) (s : State) : Host.Outcome State Fault Refusal :=
  .next (s.answered tag PortRole.asLinkWord fun _ => linkWordAnswered answer)

/-- POOL_TABLE_ANSWER (R164, R5). -/
def execPoolTableAnswer (tag : Nat) (answer : ReadAnswer 512) (s : State) : Host.Outcome State Fault Refusal :=
  .next (s.answered tag PortRole.asPoolTable fun _ => poolTableAnswered answer)

/-- START_SELECTOR_ANSWER (R48). -/
def execStartSelectorAnswer (tag : Nat) (answer : ReadAnswer 64) (s : State) : Host.Outcome State Fault Refusal :=
  .next (s.answered tag PortRole.asStartSelector fun _ => startSelectorAnswered answer)

/-- START_PAGE_ANSWER (R48, R49). -/
def execStartPageAnswer (tag : Nat) (answer : ReadAnswer 8192) (s : State) : Host.Outcome State Fault Refusal :=
  .next (s.answered tag PortRole.asStartPage fun _ => startPageAnswered answer)

/-- SELECTOR_ANSWER (R51). -/
def execSelectorAnswer (tag : Nat) (answer : ReadAnswer 64) (s : State) : Host.Outcome State Fault Refusal :=
  .next (s.answered tag PortRole.asSelector fun _ => selectorAnswered answer)

/-- PAGE_ANSWER (R52, R53). -/
def execPageAnswer (tag : Nat) (answer : ReadAnswer 8192) (s : State) : Host.Outcome State Fault Refusal :=
  .next (s.answered tag PortRole.asPage fun _ => pageAnswered answer)

end Sys2Proof.Machine
end

