-- ==== Sys2Proof/Machine/LinkEvents.lean ====
section
/-! DEFINITION. Meanings of the events on the sensor link and of the gap deadline (spec 04, 05). -/

namespace Sys2Proof.Machine

/-- ALIGNMENT_WORD_MATCH (R69). -/
def execAlignmentWordMatch (lane : LaneId) (run : LaneRun) (s : State) : Host.Outcome State Fault Refusal :=
  .next (takeMatch lane (s.receive (onlyLane lane run)))

/-- VERIFY_HEADER (R70). -/
def execVerifyHeader (runs : LaneRuns) (s : State) : Host.Outcome State Fault Refusal :=
  .next (takeVerifyHeader (s.receive runs))

/-- VERIFY_BOUNDARY (R70). -/
def execVerifyBoundary (runs : LaneRuns) (s : State) : Host.Outcome State Fault Refusal :=
  .next (takeVerifyBoundary (s.receive runs))

/-- VERIFY_EXTENT_END (R70). -/
def execVerifyExtentEnd (s : State) : Host.Outcome State Fault Refusal :=
  .next (endVerify s)

/-- LOCKED_BOUNDARY (R74). -/
def execLockedBoundary (runs : LaneRuns) (s : State) : Host.Outcome State Fault Refusal :=
  .next (takeLockedBoundary (s.receive runs))

/-- LOCKED_HEADER (R72, R73). -/
def execLockedHeader (runs : LaneRuns) (s : State) : Host.Outcome State Fault Refusal :=
  .next (takeLockedHeader (s.receive runs))

/-- BOUNDARY_SEARCH (R72). -/
def execBoundarySearch (runs : LaneRuns) (s : State) : Host.Outcome State Fault Refusal :=
  .next (searchBoundary (s.receive runs))

/-- PACKET_COMPLETE (R71, R73). -/
def execPacketComplete (last : PacketEnd) (s : State) : Host.Outcome State Fault Refusal :=
  .next (takePacket last.between (s.receive last.runs))

/-- GAP_TIMEOUT (R92). -/
def execGapTimeout (s : State) : Host.Outcome State Fault Refusal :=
  .next (expireGap s)

end Sys2Proof.Machine
end

