-- ==== Sys2Proof/Machine/RegisterCommands.lean ====
section
/-! DEFINITION. Meanings of the register writes and of the resets (spec 10). -/

namespace Sys2Proof.Machine

/-- START (R163, R164). -/
def execStart (s : State) : Host.Outcome State Fault Refusal :=
  .next (writeRun 1 s)

/-- STOP (R163, R167). -/
def execStop (s : State) : Host.Outcome State Fault Refusal :=
  .next (writeRun 2 s)

/-- ABORT (R163, R166, R168). -/
def execAbort (s : State) : Host.Outcome State Fault Refusal :=
  .next (writeRun 3 s)

/-- CLEAR_FAULT (R163, R171). -/
def execClearFault (s : State) : Host.Outcome State Fault Refusal :=
  .next (writeRun 4 s)

/-- RESET: a soft reset in any run state (R163, R175). -/
def execReset (s : State) : Host.Outcome State Fault Refusal :=
  .next (writeRun 5 s)

/-- UNKNOWN_CODE: RUN written with another value, judged by the value (R163; log 16). -/
def execUnknownCode (code : Word) (s : State) : Host.Outcome State Fault Refusal :=
  .next (writeRun code s)

/-- ATTENTION: each flag whose written bit is 1 is cleared (R173). -/
def execAttention (value : Word) (s : State) : Host.Outcome State Fault Refusal :=
  .next (writeRegister 0x08 value s)

/-- ATTENTION_ENABLE: all fourteen enables are replaced (R174). -/
def execAttentionEnable (value : Word) (s : State) : Host.Outcome State Fault Refusal :=
  .next (writeRegister 0x0C value s)

/-- ANCHOR_LO: replaced in STOPPED, ignored otherwise (R162). -/
def execAnchorLo (value : Word) (s : State) : Host.Outcome State Fault Refusal :=
  .next (writeRegister 0x10 value s)

/-- ANCHOR_HI: replaced in STOPPED, ignored otherwise (R162). -/
def execAnchorHi (value : Word) (s : State) : Host.Outcome State Fault Refusal :=
  .next (writeRegister 0x14 value s)

/-- IGNORED_REGISTER_WRITE: the window judges the write, and ignores every well-formed one (R160; log 16). -/
def execIgnoredRegisterWrite (offset width : Nat) (value : DWord) (s : State) : Host.Outcome State Fault Refusal :=
  .next (writeWindow offset width value s)

/-- POWER_ON_RESET (R175). -/
def execPowerOnReset (s : State) : Host.Outcome State Fault Refusal :=
  .next (s.hardReset)

/-- PORT_RESET (R175). -/
def execPortReset (s : State) : Host.Outcome State Fault Refusal :=
  .next (s.hardReset)

end Sys2Proof.Machine
end

