-- ==== Sys2Proof/Machine/WriteEvents.lean ====
section
/-! DEFINITION. Meanings of the admission, of the responses to writes, and of the entries to SEALING and STOPPED (spec 06, 09, 10). -/

namespace Sys2Proof.Machine

/-- ADMISSION (R153). -/
def execAdmission (s : State) : Host.Outcome State Fault Refusal :=
  .next (admitOne s)

/-- ROW_WRITE_RESPONSE (R155). -/
def execRowWriteResponse (tag : Nat) (answer : WriteAnswer) (s : State) : Host.Outcome State Fault Refusal :=
  .next (takeRowWrite tag answer s)

/-- METADATA_COPY_RESPONSE (R156). -/
def execMetadataCopyResponse (tag : Nat) (answer : WriteAnswer) (s : State) : Host.Outcome State Fault Refusal :=
  .next (takeMetadataCopy tag answer s)

/-- FRAME_RECORD_RESPONSE (R107). -/
def execFrameRecordResponse (tag : Nat) (answer : WriteAnswer) (s : State) : Host.Outcome State Fault Refusal :=
  .next (takeFrameRecord tag answer s)

/-- VIEW_TALLY_RESPONSE (R109). -/
def execViewTallyResponse (tag : Nat) (answer : WriteAnswer) (s : State) : Host.Outcome State Fault Refusal :=
  .next (takeViewTally tag answer s)

/-- ADOPTION_WORD_RESPONSE (R47, R165). -/
def execAdoptionWordResponse (tag : Nat) (answer : WriteAnswer) (s : State) : Host.Outcome State Fault Refusal :=
  .next (takeAdoptionWord tag answer s)

/-- LINK_TALLY_RESPONSE (R95). -/
def execLinkTallyResponse (tag : Nat) (answer : WriteAnswer) (s : State) : Host.Outcome State Fault Refusal :=
  .next (takeLinkTally tag answer s)

/-- SEALING_ENTRY (R106, R107). -/
def execSealingEntry (view : ViewId) (s : State) : Host.Outcome State Fault Refusal :=
  .next (enterSealing view s)

/-- RUN_STOPPED (R169). -/
def execRunStopped (s : State) : Host.Outcome State Fault Refusal :=
  .next (reachStopped s)

end Sys2Proof.Machine
end

