-- ==== Sys2Proof/Machine/Dispatch.lean ====
section
/-! DEFINITION. The dispatch: one arm for each command of the opcode table. -/

namespace Sys2Proof.Machine

def exec (i : Instr) (s : State) : Host.Outcome State Fault Refusal :=
  match i with
  | .start => Sys2Proof.Machine.execStart s
  | .stop => Sys2Proof.Machine.execStop s
  | .abort => Sys2Proof.Machine.execAbort s
  | .clearFault => Sys2Proof.Machine.execClearFault s
  | .reset => Sys2Proof.Machine.execReset s
  | .unknownCode code => Sys2Proof.Machine.execUnknownCode code s
  | .attention value => Sys2Proof.Machine.execAttention value s
  | .attentionEnable value => Sys2Proof.Machine.execAttentionEnable value s
  | .anchorLo value => Sys2Proof.Machine.execAnchorLo value s
  | .anchorHi value => Sys2Proof.Machine.execAnchorHi value s
  | .ignoredRegisterWrite offset width value => Sys2Proof.Machine.execIgnoredRegisterWrite offset width value s
  | .powerOnReset => Sys2Proof.Machine.execPowerOnReset s
  | .portReset => Sys2Proof.Machine.execPortReset s
  | .alignmentWordMatch lane run => Sys2Proof.Machine.execAlignmentWordMatch lane run s
  | .verifyHeader runs => Sys2Proof.Machine.execVerifyHeader runs s
  | .verifyBoundary runs => Sys2Proof.Machine.execVerifyBoundary runs s
  | .verifyExtentEnd => Sys2Proof.Machine.execVerifyExtentEnd s
  | .lockedBoundary runs => Sys2Proof.Machine.execLockedBoundary runs s
  | .lockedHeader runs => Sys2Proof.Machine.execLockedHeader runs s
  | .boundarySearch runs => Sys2Proof.Machine.execBoundarySearch runs s
  | .packetComplete last => Sys2Proof.Machine.execPacketComplete last s
  | .gapTimeout => Sys2Proof.Machine.execGapTimeout s
  | .linkWordAnswer tag answer => Sys2Proof.Machine.execLinkWordAnswer tag answer s
  | .poolTableAnswer tag answer => Sys2Proof.Machine.execPoolTableAnswer tag answer s
  | .startSelectorAnswer tag answer => Sys2Proof.Machine.execStartSelectorAnswer tag answer s
  | .startPageAnswer tag answer => Sys2Proof.Machine.execStartPageAnswer tag answer s
  | .selectorAnswer tag answer => Sys2Proof.Machine.execSelectorAnswer tag answer s
  | .pageAnswer tag answer => Sys2Proof.Machine.execPageAnswer tag answer s
  | .adoptionWordResponse tag answer => Sys2Proof.Machine.execAdoptionWordResponse tag answer s
  | .linkTallyResponse tag answer => Sys2Proof.Machine.execLinkTallyResponse tag answer s
  | .claimServiceStart pool => Sys2Proof.Machine.execClaimServiceStart pool s
  | .slotReadAnswer tag answer => Sys2Proof.Machine.execSlotReadAnswer tag answer s
  | .claimAnswer tag answer => Sys2Proof.Machine.execClaimAnswer tag answer s
  | .refusalAnswer tag answer => Sys2Proof.Machine.execRefusalAnswer tag answer s
  | .firstWriteAnswer tag answer => Sys2Proof.Machine.execFirstWriteAnswer tag answer s
  | .returnAnswer tag answer => Sys2Proof.Machine.execReturnAnswer tag answer s
  | .admission => Sys2Proof.Machine.execAdmission s
  | .rowWriteResponse tag answer => Sys2Proof.Machine.execRowWriteResponse tag answer s
  | .metadataCopyResponse tag answer => Sys2Proof.Machine.execMetadataCopyResponse tag answer s
  | .sealingEntry view => Sys2Proof.Machine.execSealingEntry view s
  | .frameRecordResponse tag answer => Sys2Proof.Machine.execFrameRecordResponse tag answer s
  | .sealingAnswer tag answer => Sys2Proof.Machine.execSealingAnswer tag answer s
  | .viewTallyResponse tag answer => Sys2Proof.Machine.execViewTallyResponse tag answer s
  | .runStopped => Sys2Proof.Machine.execRunStopped s

end Sys2Proof.Machine
end

