-- ==== Sys2Proof/Safety.lean ====
section
/-! DEFINITION. What a sound state of the part is: the promises the spec makes about every moment of a run, as predicates. -/

namespace Sys2Proof.Machine

/-! ### Words the statements use -/

/-- The outstanding read or compare-exchange of this tag is of this kind and owner. -/
abbrev State.awaits (s : State) (tag : Nat) (role : PortRole) : Prop :=
  ((s.port.entries.find? fun e => e.tag == tag).map fun e => e.role) = some role

/-- The outstanding write of this tag is of this kind and owner. -/
abbrev State.awaitsWrite (s : State) (tag : Nat) (role : WriteRole) : Prop :=
  ((s.queue.entries.find? fun e => e.tag == tag).map fun e => e.role) = some role

/-- The run is in STARTING, RUNNING, STOPPING or ABORTING (spec 10 R172). -/
abbrev State.live (s : State) : Prop := s.run.state ≠ .stopped ∧ s.run.state ≠ .fault

/-- The run state in which a command written to RUN is accepted, alignment and outstanding transactions apart
(spec 10 Table 10-5). -/
def acceptedIn (c : Instr) (r : RunState) : Bool :=
  match c with
  | .start => r = .stopped
  | .stop => r = .running
  | .abort => r = .starting || r = .running || r = .stopping
  | .clearFault => r = .fault
  | .reset => true
  | _ => false

/-- The tag of an answer command, if it is an answer to a read or compare-exchange of this kind. -/
def answersTo (c : Instr) (r : PortRole) : Option Nat :=
  match c, r with
  | .linkWordAnswer tag _, .linkWord => some tag
  | .poolTableAnswer tag _, .poolTable => some tag
  | .startSelectorAnswer tag _, .startSelector => some tag
  | .startPageAnswer tag _, .startPage => some tag
  | .selectorAnswer tag _, .selector => some tag
  | .pageAnswer tag _, .page => some tag
  | .slotReadAnswer tag _, .slotRead _ => some tag
  | .claimAnswer tag _, .claim _ => some tag
  | .refusalAnswer tag _, .refusal _ => some tag
  | .firstWriteAnswer tag _, .firstWrite _ => some tag
  | .returnAnswer tag _, .giveBack _ => some tag
  | .sealingAnswer tag _, .sealing _ => some tag
  | _, _ => none

/-- The tag of a response command, if it is a response to a write of this kind. -/
def respondsTo (c : Instr) (r : WriteRole) : Option Nat :=
  match c, r with
  | .rowWriteResponse tag _, .row _ _ _ => some tag
  | .metadataCopyResponse tag _, .metadataCopy _ _ => some tag
  | .frameRecordResponse tag _, .frameRecord _ => some tag
  | .viewTallyResponse tag _, .viewTally _ _ => some tag
  | .linkTallyResponse tag _, .linkTally => some tag
  | .adoptionWordResponse tag _, .adoptionWord => some tag
  | _, _ => none

/-- A packet's bytes laid on `lanes` lanes, byte i on lane i mod `lanes` (spec 04 R61). -/
def stripeOver (lanes : Nat) (bytes : List Byte) : LaneBytes :=
  let share (j : Nat) : List Byte :=
    (List.range bytes.length).filterMap fun i => if i % lanes = j then bytes[i]? else none
  #v[share 0, share 1, share 2, share 3]

/-! ### The lanes -/

/-- What the lanes hold once runs have arrived: on each lane in use the new bytes follow, in successive byte periods
(spec 04 R61, R62). -/
def Receiver.holding (r : Receiver) (runs : LaneRuns) : Vector (List LaneByte) 4 :=
  let lane (j : LaneId) : List LaneByte :=
    if j.val < r.lanes then
      r.held[j] ++ runs[j].bytes.mapIdx fun i b => { value := b, arrival := runs[j].arrival + i }
    else r.held[j]
  #v[lane 0, lane 1, lane 2, lane 3]

/-- Runs arrive, and no event takes their bytes. -/
def State.lanesHold (s : State) (runs : LaneRuns) : State :=
  { s with receiver := { s.receiver with held := s.receiver.holding runs } }

/-- No lane carries a byte. -/
def noBytes : LaneRuns := #v[⟨[], 0⟩, ⟨[], 0⟩, ⟨[], 0⟩, ⟨[], 0⟩]

/-- Nothing arrives but on one lane. -/
def runOn (lane : LaneId) (run : LaneRun) : LaneRuns := noBytes.set lane run

/-- The values of the bytes the lanes hold. -/
def valuesOf (held : Vector (List LaneByte) 4) : LaneBytes := held.map fun bytes => bytes.map LaneByte.value

/-- The lanes with the oldest bytes taken, as many as each lane's count says. -/
def taking (held : Vector (List LaneByte) 4) (count : LaneId → Nat) : Vector (List LaneByte) 4 :=
  #v[held[0].drop (count 0), held[1].drop (count 1), held[2].drop (count 2), held[3].drop (count 3)]

/-- The bytes a lane carries of payload and trailer of a packet with this header (spec 04 R61, R63). -/
def shareAfter (lanes : Nat) (h : BitVec 64) (j : LaneId) : Nat :=
  laneShare lanes (if headerLength h = 0 then 0 else headerLength h + 4) j.val

/-- The bytes a lane still carries to the end of the extent of the packet in progress. -/
def Receiver.toBoundary (r : Receiver) (j : LaneId) : Nat :=
  match r.packet with
  | some h => shareAfter r.lanes h j
  | none => 0

/-- Every lane in use has carried the extent of the packet in progress and `count` bytes more. -/
def Receiver.reaches (r : Receiver) (held : Vector (List LaneByte) 4) (count : Nat) : Prop :=
  ∀ j : LaneId, j.val < r.lanes → r.toBoundary j + count ≤ held[j].length

/-- The bytes from place n on begin with the alignment word 5AH, C3H, 3CH, A5H (spec 04 R62). -/
def WordAt (bytes : List LaneByte) (n : Nat) : Prop :=
  ((bytes.drop n).take 4).map LaneByte.value = [0x5A, 0xC3, 0x3C, 0xA5]

/-- The first alignment word among the bytes stands at place n, and its first byte arrived in period a. -/
def FirstWord (bytes : List LaneByte) (n a : Nat) : Prop :=
  WordAt bytes n ∧ (∀ m, m < n → ¬WordAt bytes m) ∧ bytes[n]?.map LaneByte.arrival = some a

/-- A boundary at the end of the extent: the alignment word on every lane in use, its first bytes within 16 byte periods of one
another (spec 04 R62). -/
def Receiver.boundaryPresent (r : Receiver) (held : Vector (List LaneByte) 4) : Prop :=
  ∃ arrival : LaneId → Nat,
    (∀ j : LaneId, j.val < r.lanes →
      WordAt held[j] (r.toBoundary j) ∧ held[j][r.toBoundary j]?.map LaneByte.arrival = some (arrival j))
    ∧ ∀ i j : LaneId, i.val < r.lanes → j.val < r.lanes → arrival i ≤ arrival j + 16

/-- The receiver dropped to HUNT with the lanes in use and the error counts given to it (spec 04 R69). -/
def huntFrom (r : Receiver) : Receiver :=
  { r with
    state := .hunt, positions := #v[none, none, none, none], verifyCount := 0, badCount := 0, phase := .idle, packet := none
    held := #v[[], [], [], []] }

/-- With these bytes the lanes hold the whole packet in progress in LOCKED, and its trailer check, if it has one, passes
(spec 04 R66, R71). -/
def State.completes (s : State) (runs : LaneRuns) (header : BitVec 64) (payload : List Byte) : Prop :=
  s.receiver.state = .locked ∧ s.receiver.phase = .payload ∧ s.receiver.packet = some header
    ∧ ∃ body,
        rebuild s.receiver.lanes (valuesOf (s.receiver.holding runs)) (bodyBytes (headerLength header)) = some body
          ∧ payload = body.take (headerLength header)
          ∧ (headerLength header = 0 ∨ leValue ((body.drop (headerLength header)).take 4) = (crc32 payload).toNat)

/-- The receiver once the packet with this header is complete: its bytes are taken, and the next boundary follows. -/
def State.packetTaken (s : State) (runs : LaneRuns) (header : BitVec 64) : State :=
  { s with
    receiver :=
      { s.receiver with
        phase := .boundary, packet := none
        held := taking (s.receiver.holding runs) (shareAfter s.receiver.lanes header) } }

/-! ### What an event of the tracker makes of the channels -/

/-- An event on every channel, in view id order. -/
def eachOf (f : ViewId → State → State) (s : State) : State := f 7 (f 6 (f 5 (f 4 (f 3 (f 2 (f 1 (f 0 s)))))))

/-- The bookkeeping order with a request joined at its end, or as it was if one of its kind and owner waits (spec 09 R152). -/
def State.joined (s : State) (r : Request) : WriteQueue :=
  if s.waitingFor r then s.queue else { s.queue with requests := s.queue.requests ++ [r] }

/-- The port with one more read or compare-exchange outstanding, under the next tag. -/
def State.issued (s : State) (role : PortRole) (access : PortAccess) : Port :=
  { entries := s.port.entries ++ [{ tag := s.port.nextTag, role := role, access := access }]
    nextTag := s.port.nextTag + 1 }

/-- The slot word with another state code (spec 02 R24). -/
def recoded (word : Word) (code : Byte) : Word := word.extractLsb' 8 24 ++ code

/-- A channel in another state, with another view frame. -/
def State.put (s : State) (k : ViewId) (state : ChannelState) (v : ViewFrame) : State :=
  { s with channels := s.channels.set k { s.channel k with state := state, frame := some v } }

/-- A channel's compare-exchange on the record of its slot, from the word it expects to the same word with another state code; nothing
in STOPPED and FAULT (spec 02 R24, R25, 10 R172). -/
def State.exchanges (s : State) (role : PortRole) (x : Slot) (code : Byte) : State :=
  if s.live then
    { s with port := s.issued role (.compareExchange (s.slotAddress x.pool x.index) x.word (recoded x.word code)) }
  else s

/-- An abandoned view frame: cause and end timestamp, nothing accumulated, staged or due (spec 06 R105, 08 R143). -/
def leftBehind (v : ViewFrame) (cause : OutcomeCause) (time : DWord) : ViewFrame :=
  { v with
    abandoned := some cause, endTime := time, accumulator := [], present := [], staging := []
    copy := if v.copy = .outstanding ∨ v.copy = .answered then v.copy else .notDue }

/-- Staged rows with the transactions not yet admitted withdrawn; a cell-row with none outstanding leaves its place (spec 09 R158). -/
def withdrawnFrom (staging : List CellRow) : List CellRow :=
  (staging.filter fun c => c.rows.any fun r => r.transactions.any fun t => t = .outstanding).map fun c =>
    { rows := c.rows.map fun r =>
        { r with transactions := r.transactions.map fun t => if t = .waiting then .withdrawn else t } }

/-- An abandoning event reaches a channel: CLAIMING it waits in RETURNING for its claim; ACTIVE with a TAKEN slot it gives the slot back
from RETURNING; with the first write issued it goes on in FLUSHING, and with a FILLING slot what is admitted stays (spec 06 R105,
02 R31, 09 R158). -/
def State.abandons (cause : OutcomeCause) (time : DWord) (k : ViewId) (s : State) : State :=
  match (s.channel k).frame with
  | none => s
  | some v =>
    let left := leftBehind v cause time
    let flushing : State :=
      { s.put k .flushing { left with staging := withdrawnFrom v.staging } with
        queue := { s.queue with requests := s.queue.requests.filter fun q => q ≠ .metadataCopy k } }
    if v.abandoned ≠ none then s
    else
      match (s.channel k).state, v.firstWrite, v.slot with
      | .claiming, _, _ => s.put k .returning left
      | .active, .notIssued, some x => (s.put k .returning left).exchanges (.giveBack k) x 0x01
      | .active, .notIssued, none => s.put k .returning left
      | .active, .outstanding, _ => s.put k .flushing left
      | .active, .exchanged, _ => flushing
      | .flushing, _, _ => flushing
      | .idle, _, _ | .sealing, _, _ | .returning, _, _ => s

/-- What an ACTIVE channel does at once: its first write as soon as it has something to write, and FLUSHING with its window complete and
its first write issued (spec 06 R103, R104). -/
def State.advances (k : ViewId) (s : State) : State :=
  match (s.channel k).frame with
  | none => s
  | some v =>
    match v.slot with
    | some x =>
      if (s.channel k).state = .active ∧ v.firstWrite = .notIssued ∧ (v.copy = .due ∨ v.staging ≠ []) then
        (s.put k (if v.windowComplete then .flushing else .active) { v with firstWrite := .outstanding }).exchanges
          (.firstWrite k) x 0x03
      else if (s.channel k).state = .active ∧ v.windowComplete = true ∧ v.firstWrite ≠ .notIssued then s.put k .flushing v
      else s
    | none =>
      if (s.channel k).state = .active ∧ v.windowComplete = true ∧ v.firstWrite ≠ .notIssued then s.put k .flushing v
      else s

/-- CLAIMING or ACTIVE. -/
abbrev Channel.opened (c : Channel) : Prop := c.state = .claiming ∨ c.state = .active

/-- In production: CLAIMING or ACTIVE, not abandoned, window not complete (spec 07 R120). -/
abbrev Channel.produces (c : Channel) (v : ViewFrame) : Prop := c.opened ∧ v.abandoned = none ∧ v.windowComplete = false

/-- A metadata notice: a CLAIMING or ACTIVE view frame finds its copy due or not, with its length, and whether the metadata was cut
(spec 05 R87, 08 R142, R144). -/
def State.takesMetadata (bank : Bank) (k : ViewId) (s : State) : State :=
  match (s.channel k).frame with
  | none => s
  | some v =>
    let limit := v.descriptor.metadataLimit
    if (s.channel k).opened ∧ v.abandoned = none then
      (s.put k (s.channel k).state
        { v with
          copy := if 0 < limit ∧ 0 < bank.bytes.length then .due else .notDue
          copyLength := min bank.bytes.length limit
          metaTruncated := decide (0 < limit ∧ (bank.truncated = true ∨ limit < bank.bytes.length)) }).advances k
    else s

/-- The view frame with a row's own effect taken: an arrived row that matters adds its weighted horizontal sums and its weight to its
phase; a missing one is counted (spec 07 R122, R123, R125). -/
def rowTaken (v : ViewFrame) (place : RowPlace) (payload : Option (List Byte)) : ViewFrame :=
  if place.weight = 0 then v
  else
    match payload with
    | some bytes =>
      { v with
        accumulator := v.accumulator.modify place.phase fun row =>
          List.zipWith (fun a x => a + BitVec.ofNat 32 (place.weight * x)) row
            (horizontalSums v.period v.depth v.sizes.outWidth v.descriptor bytes)
        present := v.present.modify place.phase fun sum => sum + place.weight }
    | none => { v with missingRows := v.missingRows + 1 }

/-- The view frame with its group finalized into a free staging place (spec 07 R126 to R131, 08 R139). -/
def groupStaged (v : ViewFrame) (time : DWord) : ViewFrame :=
  let staged : ViewFrame :=
    { v with
      holeRows := v.holeRows + v.groupHoles
      staging := v.staging ++ [v.cellRow]
      saturated := v.saturated + BitVec.ofNat 32 v.clipped
      accumulator := List.replicate v.period (List.replicate v.sizes.outWidth 0)
      present := List.replicate v.period 0 }
  if v.group + 1 < groupCount v.period v.descriptor then { staged with group := v.group + 1 }
  else { staged with windowComplete := true, endTime := time }

/-- A row notice, arrived with its payload or missing, as a channel in production takes it: outside the window nothing; a missing row
that matters under ABANDON abandons with ROW_LOSS; the last row of a group finds its group finalized into a free place, or overflows
(spec 07 R120 to R131, 09 R149; the hole rows of a group that overflows as log 7 has them). -/
def State.takesRow (time : DWord) (row : Nat) (payload : Option (List Byte)) (k : ViewId) (s : State) : State :=
  match (s.channel k).frame with
  | none => s
  | some v =>
    let state := (s.channel k).state
    if (s.channel k).produces v then
      match placeRow v.period v.descriptor row with
      | none => s
      | some place =>
        let w := rowTaken v place payload
        if place.weight ≠ 0 ∧ payload = none ∧ v.descriptor.policy = 1 then (s.put k state w).abandons .rowLoss time k
        else if place.last = false then s.put k state w
        else if v.staging.length < 2 then (s.put k state (groupStaged w time)).advances k
        else
          (s.put k state { w with holeRows := w.holeRows + w.groupHoles }).abandons
            (if state = .claiming then .lateBuffer else .overrun) time k
    else s

/-- A truncation notice: a view frame in production is abandoned (spec 05 R91, 06 R105). -/
def State.takesTruncation (cause : OutcomeCause) (time : DWord) (k : ViewId) (s : State) : State :=
  match (s.channel k).frame with
  | none => s
  | some v => if (s.channel k).produces v then s.abandons cause time k else s

/-- ABORT: a CLAIMING or ACTIVE view frame is abandoned (spec 06 R114). -/
def State.takesAbort (time : DWord) (k : ViewId) (s : State) : State :=
  if (s.channel k).opened then s.abandons .aborted time k else s

/-- Leaving HEADER gives every channel the metadata notice of the current bank (spec 05 R87). -/
def State.metadataClosed (s : State) : State :=
  if s.tracker.state = .header then eachOf (State.takesMetadata s.tracker.banks[s.tracker.currentBank]) s else s

/-- The command that is the same step as a step of the memory path taken between two notices (log 26). -/
def stepCommand (x : MemoryStep) : Instr :=
  let cas (exchanged : Bool) : CasAnswer := if exchanged then .exchanged else .notExchanged
  match x with
  | .admission => .admission
  | .rowWriteResponse tag answer => .rowWriteResponse tag answer
  | .metadataCopyResponse tag answer => .metadataCopyResponse tag answer
  | .frameRecordResponse tag => .frameRecordResponse tag .ok
  | .viewTallyResponse tag => .viewTallyResponse tag .ok
  | .linkTallyResponse tag => .linkTallyResponse tag .ok
  | .adoptionWordResponse tag => .adoptionWordResponse tag .ok
  | .claimServiceStart pool => .claimServiceStart pool
  | .slotReadAnswer tag answer => .slotReadAnswer tag answer
  | .claimAnswer tag answer => .claimAnswer tag answer
  | .refusalAnswer tag answer => .refusalAnswer tag answer
  | .firstWriteAnswer tag exchanged => .firstWriteAnswer tag (cas exchanged)
  | .returnAnswer tag exchanged => .returnAnswer tag (cas exchanged)
  | .sealingAnswer tag exchanged => .sealingAnswer tag (cas exchanged)
  | .sealingEntry view => .sealingEntry view

/-- The state a command leaves. -/
def State.commanded (s : State) (c : Instr) : State :=
  match exec c s with
  | .next t => t
  | .fault _ | .refused _ => s

/-- The steps of the memory path taken before the notice of a row, each as its own command would take it; none in STARTING, where no
frame is in progress (spec 07 R126, 09 R153; log 26). -/
def State.steppedBefore (between : List NoticeStep) (row : Nat) (s : State) : State :=
  (between.filter fun a => a.row = row).foldl
    (fun s a => if s.run.state = .starting then s else s.commanded (stepCommand a.step)) s

/-- A row resolved: its notice is given to every channel (spec 05 R89). -/
def State.resolves (between : List NoticeStep) (row : Nat) (payload : Option (List Byte)) (s : State) : State :=
  eachOf (State.takesRow s.timebase row payload) (s.steppedBefore between row)

/-- `count` rows from `first` on resolved missing, one after another (spec 05 R88). -/
def State.resolvesMissing (between : List NoticeStep) : Nat → Nat → State → State
  | _, 0, s => s
  | first, count + 1, s => State.resolvesMissing between (first + 1) count (s.resolves between first none)

/-- The end of a frame: the link tally write asked for, and in RUNNING with the fetch state QUIET the selector read (spec 05 R90, R95,
03 R50). -/
def State.frameEnds (s : State) : State :=
  let u : State := { s with queue := s.joined .linkTally }
  if s.run.state = .running ∧ s.plan.fetch = .quiet then
    { u with
      plan := { s.plan with fetch := .selector, selector := none, discard := false }
      port := u.issued .selector (.read s.run.anchor 8) }
  else u

/-- A frame in progress truncated: metadata closed, the frame counted, the channels told, the end of the frame; out of frame nothing
(spec 05 R91, R93). -/
def State.truncates (cause : OutcomeCause) (s : State) : State :=
  if s.tracker.state = .idle then s
  else
    (eachOf (State.takesTruncation cause s.timebase)
      { s.metadataClosed with
        tracker :=
          { s.tracker with
            state := .idle
            deadline := none
            framesTruncated := s.tracker.framesTruncated + 1
            gapTimeouts := s.tracker.gapTimeouts + (if cause = .gapTimeout then 1 else 0) } }).frameEnds

/-- The deadline an item taken in frame sets (spec 05 R92). -/
def State.deadlineNow (s : State) : Option DWord :=
  if s.tracker.gapLimit = 0 then none else some (s.timebase + s.tracker.gapLimit.setWidth 64)

/-- Line memory as the adoption of a plan lays it out: in view order, each enabled view's blocks after those of the one before it, from
block 0 on; a disabled view has 0 blocks (spec 09 R146), the first of which is the model's choice (log 25). -/
def LaidOut (p : Plan) (a : Vector Allocation 8) : Prop :=
  let blocks (j : ViewId) : Nat :=
    match p.sizes[j] with
    | some z => z.accumulatorBlocks + z.stagingBlocks
    | none => 0
  ∀ k : ViewId,
    (p.sizes[k] = none → a[k] = { first := 0, accumulatorBlocks := 0, stagingBlocks := 0 })
      ∧ ∀ z, p.sizes[k] = some z →
          a[k] =
            { first := (((List.finRange 8).filter fun j => j < k).map blocks).sum
              accumulatorBlocks := z.accumulatorBlocks
              stagingBlocks := z.stagingBlocks }

/-! ### What an answer leaves -/

/-- The write queue with one more write outstanding, under the next tag. -/
def State.written (s : State) (role : WriteRole) (address : DWord) (data : List Byte) : WriteQueue :=
  { s.queue with
    entries := s.queue.entries ++ [{ tag := s.port.nextTag, role := role, address := address, data := data }] }

/-- The word of a claim or refusal: claim tag, unused field 0, view id, state code (spec 02 R24, spec 11 Table 11-9). -/
def claimWord (code : Byte) (view : ViewId) (tag : Half) : Word := tag ++ (0 : BitVec 4) ++ BitVec.ofNat 4 view.val ++ code

/-- A reported rejection of a START: report values, remembered sequence, the write asked for, PLAN_REJECTED, QUIET
(spec 03 R49). -/
def startFailed (s : State) (sequence : Word) (reason : Reason) (view : Byte) : State :=
  { s with
    run := { s.run with progress := .failed }
    plan :=
      { s.plan with
        fetch := .quiet
        selector := none
        discard := false
        remembered := if reason.definitive then some sequence else s.plan.remembered
        report :=
          { s.plan.report with
            rejectedSequence := sequence
            reason := reason
            rejectedView := view
            transients := s.plan.report.transients + (if reason.transient then 1 else 0) } }
    queue := s.joined .adoptionWord
    attention := { s.attention with flags := s.attention.flags ||| 0x0080 } }

/-- Every block as entry to FAULT leaves it (spec 10 R170; 02 R45, 03 R59, 04 R77, 05 R96, 06 R115, 09 R159). -/
def faultedFrom (s : State) : State :=
  { s with
    run := { s.run with state := .fault, progress := .none }
    attention := { s.attention with flags := s.attention.flags ||| 0x2000 }
    receiver :=
      { s.receiver with
        state := .off, positions := #v[none, none, none, none], verifyCount := 0, badCount := 0, phase := .idle,
        packet := none, held := #v[[], [], [], []] }
    tracker :=
      { s.tracker with
        state := .idle
        deadline := none
        framesTruncated := s.tracker.framesTruncated + (if s.tracker.state = .idle then 0 else 1) }
    plan := { s.plan with fetch := .quiet, selector := none, discard := false, candidate := none }
    scanners := s.scanners.map fun x => { x with queue := [], service := none }
    channels := s.channels.map fun c => { c with state := .idle, frame := none }
    queue := { s.queue with requests := [] } }

/-- The plan unit after a running fetch that ends: QUIET, with nothing kept of the fetch (spec 03 R46). -/
def PlanUnit.ended (p : PlanUnit) : PlanUnit := { p with fetch := .quiet, selector := none, discard := false }

/-- The pending plan discarded, and counted if there was one (spec 03 R51, R53). -/
def PlanUnit.without (p : PlanUnit) : PlanUnit :=
  { p with
    candidate := none
    report := { p.report with discards := p.report.discards + (if p.candidate = none then 0 else 1) } }

/-- A failed claim would skip the view frame of this channel, raising FRAME_SKIPPED: it is CLAIMING, its claim in flight
(spec 06 R102). -/
def State.skips (s : State) (k : ViewId) : Prop :=
  (s.channel k).state = .claiming ∧ ∃ v, (s.channel k).frame = some v ∧ v.claimInFlight = true

/-- A failed claim as its channel takes it, CLAIMING or RETURNING (spec 06 R102, R108). -/
structure ClaimFails (result : OutcomeCause) (k : ViewId) (s t : State) : Prop where
  claiming : ∀ v, (s.channel k).frame = some v → v.claimInFlight = true → (s.channel k).state = .claiming →
    (∃ w, t.channel k =
        { state := .returning, frame := some w, tally := (s.channel k).tally.count v.frameNumber .skipped result }
      ∧ w.claimInFlight = false ∧ w.closing = true ∧ w.staging = [] ∧ w.accumulator = [] ∧ w.slot = v.slot)
    ∧ t.waitingFor (.viewTally k) = true ∧ t.flagged .frameSkipped = true
  returning : ∀ v cause, (s.channel k).frame = some v → v.claimInFlight = true → (s.channel k).state = .returning →
    v.abandoned = some cause →
    (∃ w, t.channel k =
        { state := .returning, frame := some w, tally := (s.channel k).tally.count v.frameNumber .skipped cause }
      ∧ w.claimInFlight = false ∧ w.closing = true ∧ w.staging = [] ∧ w.accumulator = [] ∧ w.slot = v.slot)
    ∧ t.waitingFor (.viewTally k) = true

/-- A slot passed: the next slot's record is read, or after one round the claim fails with STARVED and the cursor stays
(spec 02 R41, R43). -/
structure PassesSlot (p : PoolId) (d : PoolDefinition) (v : ClaimService) (s t : State) : Prop where
  onward : v.visited + 1 < d.count →
    t =
      { s with
        scanners :=
          s.scanners.set p
            { s.scanner p with
              service :=
                some
                  { v with
                    index := if v.index + 1 < d.count then v.index + 1 else 0
                    visited := v.visited + 1
                    slot := none } }
        port :=
          s.issued (.slotRead p)
            (.read (d.address + BitVec.ofNat 64 (16 * (if v.index + 1 < d.count then v.index + 1 else 0))) 16) }
  starved : d.count ≤ v.visited + 1 →
    t.scanner p = { s.scanner p with service := none } ∧ ClaimFails .starved v.request.view s t
      ∧ (∀ q : PoolId, q ≠ p → t.scanner q = s.scanner q)
      ∧ (∀ j : ViewId, j ≠ v.request.view → t.channel j = s.channel j)
      ∧ t.queue.entries = s.queue.entries ∧ t.queue.pointer = s.queue.pointer
      ∧ (s.skips v.request.view → t.attention = { s.attention with flags := s.attention.flags ||| 0x0004 })
      ∧ (¬s.skips v.request.view → t.attention = s.attention)
      ∧ { t with scanners := s.scanners, channels := s.channels, queue := s.queue, attention := s.attention } = s

/-- A slot found taken by the host: the view frame ends LOST with STOLEN, and its channel closes in the state given
(spec 02 R30 to R32; 06 R103, R107, R108). -/
structure LosesSlot (k : ViewId) (closing : ChannelState) (s t : State) : Prop where
  channel : ∀ v, (s.channel k).frame = some v →
    ∃ w, t.channel k =
        { state := closing, frame := some w, tally := (s.channel k).tally.count v.frameNumber .lost .stolen }
      ∧ w.slot = none ∧ w.closing = true ∧ w.staging = [] ∧ w.accumulator = []
  others : ∀ j : ViewId, j ≠ k → t.channel j = s.channel j
  rest : { t with channels := s.channels } =
    { s with
      queue := s.joined (.viewTally k)
      attention := { s.attention with flags := s.attention.flags ||| 0x0010 } }

/-- A BUS_ERROR reaches a view frame with a FILLING slot: it is abandoned into FLUSHING, and what is not admitted is withdrawn
(spec 06 R105, 09 R158). -/
structure BusError (k : ViewId) (v : ViewFrame) (s t : State) : Prop where
  channel : ∃ w, t.channel k = { s.channel k with state := .flushing, frame := some w }
    ∧ w.abandoned = some .busError ∧ w.endTime = s.timebase ∧ w.rowsWritten = v.rowsWritten
    ∧ w.metadataBytes = v.metadataBytes ∧ w.slot = v.slot ∧ w.accumulator = []
    ∧ ∀ c ∈ w.staging, ∀ r ∈ c.rows, TransactionState.waiting ∉ r.transactions
  copy : t.waitingFor (.metadataCopy k) = false
  others : ∀ j : ViewId, j ≠ k → t.channel j = s.channel j
  rest : { t with channels := s.channels, queue := s.queue } = s
  writes : t.queue.entries = s.queue.entries ∧ t.queue.pointer = s.queue.pointer

/-- A channel the arbiter may take a row transaction of: FILLING, not abandoned, no copy waiting, with a transaction not yet
admitted (spec 09 R154). -/
def State.rowReady (s : State) (k : ViewId) : Prop :=
  ∃ v slot, (s.channel k).frame = some v ∧ v.slot = some slot
    ∧ ((s.channel k).state = .active ∨ (s.channel k).state = .flushing)
    ∧ v.firstWrite = .exchanged ∧ v.abandoned = none ∧ s.waitingFor (.metadataCopy k) = false
    ∧ ∃ c ∈ v.staging, ∃ r ∈ c.rows, TransactionState.waiting ∈ r.transactions

/-- A FLUSHING channel with nothing outstanding and nothing waiting (spec 06 R106). -/
def State.sealReady (s : State) (k : ViewId) : Prop :=
  ∃ v, (s.channel k).frame = some v ∧ (s.channel k).state = .flushing ∧ v.firstWrite = .exchanged ∧ v.staging = []
    ∧ (v.copy = .notDue ∨ v.copy = .answered)

/-- A STOPPING or ABORTING run with every block quiet and nothing outstanding (spec 10 R169). -/
def State.stopReady (s : State) : Prop :=
  (s.run.state = .stopping ∨ s.run.state = .aborting) ∧ s.tracker.state = .idle ∧ (∀ k, (s.channel k).state = .idle)
    ∧ s.plan.fetch = .quiet ∧ s.port.entries = [] ∧ s.queue.entries = [] ∧ Request.linkTally ∉ s.queue.requests
    ∧ Request.adoptionWord ∉ s.queue.requests ∧ ∀ k, Request.viewTally k ∉ s.queue.requests

/-- A waiting scanner of a READY pool with a request queued, in RUNNING, STOPPING or ABORTING (spec 02 R40, R45). -/
def State.serveReady (s : State) (p : PoolId) : Prop :=
  (s.run.state = .running ∨ s.run.state = .stopping ∨ s.run.state = .aborting) ∧ (s.scanner p).state = .ready
    ∧ (s.scanner p).service = none ∧ (s.scanner p).queue ≠ [] ∧ (s.scanner p).definition ≠ none

/-- Transaction i of a row is its channel's next: no earlier transaction of the row, and no earlier row of the staging, still waits
for admission (spec 09 R154). -/
def IsNext (staging : List CellRow) (r : StagedRow) (i : Nat) : Prop :=
  ∃ before after, staging.flatMap (fun c => c.rows) = before ++ r :: after
    ∧ (∀ q ∈ before, TransactionState.waiting ∉ q.transactions)
    ∧ r.transactions[i]? = some .waiting ∧ TransactionState.waiting ∉ r.transactions.take i

/-! ### Promises -/

/-- Frames started equals frames ended cleanly plus frames truncated, plus one while in frame (spec 05 R95). -/
def State.framesBalanced (s : State) : Prop :=
  s.tracker.framesStarted =
    s.tracker.framesEnded + s.tracker.framesTruncated + (if s.tracker.state = .idle then 0 else 1)

/-- At most 32 write transactions are outstanding (spec 09 R151). -/
def State.queueBounded (s : State) : Prop := s.queue.entries.length ≤ 32

/-- The receiver is OFF in STOPPED, STARTING and FAULT (spec 04 R77). -/
def State.receiverRests (s : State) : Prop :=
  s.run.state = .stopped ∨ s.run.state = .starting ∨ s.run.state = .fault → s.receiver.state = .off

/-- A channel is IDLE exactly when it carries no view frame (spec 06 R98). -/
def State.framesMatch (s : State) : Prop := ∀ k : ViewId, (s.channel k).state = .idle ↔ (s.channel k).frame = none

/-- Each channel's staging holds at most two cell-rows (spec 09 R148). -/
def State.stagingBounded (s : State) : Prop :=
  ∀ (k : ViewId) (v : ViewFrame), (s.channel k).frame = some v → v.staging.length ≤ 2

/-- The next-row counter does not pass the height, and a metadata bank holds at most four rows and 4096 bytes
(spec 05 R86, R88). -/
def State.trackerBounded (s : State) : Prop :=
  s.tracker.nextRow ≤ s.tracker.height.toNat
    ∧ ∀ b : BankId, s.tracker.banks[b].bytes.length ≤ 4096 ∧ s.tracker.banks[b].rows ≤ 4

/-- Line blocks allocated to the views sum to at most 512, and so they would under the pending plan (spec 09 R146). -/
def State.lineMemoryBounded (s : State) : Prop :=
  (allViews.map fun k => (s.allocations[k]).blocks).sum ≤ 512
    ∧ ∀ p : Plan, s.plan.candidate = some p → p.lineBlocks ≤ 512

/-- A view frame with a claim in flight has no slot and no first write; a slot held reads TAKEN until the first write is exchanged
and FILLING from then on; a SEALING channel's first write is exchanged (spec 02 R25 to R27, 06 R102, R103). -/
def Channel.slotInStep (c : Channel) : Prop :=
  ∀ v : ViewFrame, c.frame = some v →
    (v.claimInFlight = true → v.slot = none ∧ v.firstWrite = .notIssued)
      ∧ (∀ slot : Slot, v.slot = some slot →
          slotState slot.word = if v.firstWrite = .exchanged then .filling else .taken)
      ∧ (c.state = .sealing → v.firstWrite = .exchanged)

/-- The compare-exchange is the transition of Table 2-2 that its role names, judged by the state codes of the expected and the new
word (spec 02 R25). -/
def PortEntry.isTransition (e : PortEntry) : Prop :=
  match e.access with
  | .read _ _ => True
  | .compareExchange _ expected new =>
    match e.role with
    | .claim _ => slotState expected = .offered ∧ slotState new = .taken
    | .refusal _ => slotState expected = .offered ∧ slotState new = .refused
    | .firstWrite _ => slotState expected = .taken ∧ slotState new = .filling
    | .giveBack _ => slotState expected = .taken ∧ slotState new = .offered
    | .sealing _ => slotState expected = .filling ∧ (slotState new = .filled ∨ slotState new = .torn)
    | .linkWord | .poolTable | .startSelector | .startPage | .selector | .page | .slotRead _ => False

/-- Every outstanding compare-exchange is one of the six transitions, and every channel's slot is in step (spec 02 R25). -/
def State.sixTransitions (s : State) : Prop :=
  (∀ e ∈ s.port.entries, e.isTransition) ∧ ∀ k : ViewId, (s.channel k).slotInStep

/-- The receiver's counts stay in their ranges, a header awaited in VERIFY is the first, second or third, the lanes in use are
0, 1, 2 or 4, a lane not in use holds nothing, and in OFF no lane does, nor is there a packet or a position (spec 04 section 4.4, R61,
R68, R70, R76). -/
def State.receiverBounded (s : State) : Prop :=
  s.receiver.verifyCount ≤ 3 ∧ s.receiver.badCount ≤ 1
    ∧ (s.receiver.state = .verify ∧ s.receiver.phase = .header → s.receiver.verifyCount < 3)
    ∧ (s.receiver.lanes = 0 ∨ s.receiver.lanes = 1 ∨ s.receiver.lanes = 2 ∨ s.receiver.lanes = 4)
    ∧ (s.run.lanesRead = 0 ∨ s.run.lanesRead = 1 ∨ s.run.lanesRead = 2 ∨ s.run.lanesRead = 4)
    ∧ (∀ j : LaneId, s.receiver.lanes ≤ j.val → s.receiver.held[j] = [])
    ∧ (s.receiver.state = .off →
        s.receiver.packet = none ∧ s.receiver.positions = #v[none, none, none, none]
          ∧ s.receiver.held = #v[[], [], [], []])

/-- No two requests of one kind and owner wait for admission (spec 09 R152). -/
def State.requestsDistinct (s : State) : Prop := s.queue.requests.Pairwise fun a b => a.same b = false

/-- Every outstanding transaction was issued under a tag from `first` on and below the next tag, and no two outstanding transactions have
one tag (log 2; spec 10 R172). -/
def State.tagsFrom (first : Nat) (s : State) : Prop :=
  first ≤ s.port.nextTag
    ∧ (∀ e ∈ s.port.entries, first ≤ e.tag ∧ e.tag < s.port.nextTag)
    ∧ (∀ e ∈ s.queue.entries, first ≤ e.tag ∧ e.tag < s.port.nextTag)
    ∧ (s.port.entries.map PortEntry.tag ++ s.queue.entries.map WriteEntry.tag).Nodup

/-- Every promise of this file at once. -/
structure State.Sound (s : State) : Prop where
  frames : s.framesBalanced
  queue : s.queueBounded
  requests : s.requestsDistinct
  tags : s.tagsFrom 0
  receiver : s.receiverRests
  counts : s.receiverBounded
  channels : s.framesMatch
  staging : s.stagingBounded
  tracker : s.trackerBounded
  lineMemory : s.lineMemoryBounded
  slots : s.sixTransitions

end Sys2Proof.Machine
end

