-- ==== Sys2Proof/WellFormed.lean ====
section
/-! DEFINITION. Which commands are ones their row speaks of. The machine gives every command a meaning all the same (log 16). -/

namespace Sys2Proof

/-- Offsets of registers a 32-bit write acts on (spec 10 Table 10-1). -/
def writableOffsets : List Nat := [0x04, 0x08, 0x0C, 0x10, 0x14]

/-- Codes RUN knows (spec 10 R163). -/
def knownRunCodes : List Word := [1, 2, 3, 4, 5]

/-- Most bytes a lane carries for one packet: alignment word, header, the largest 24-bit payload and trailer, all on one lane
(spec 04 R61 to R63). No event takes more. -/
def longestRun : Nat := 4 + 8 + 16777215 + 4

/-- No lane carries more than `n` bytes. -/
def eachLaneAtMost (n : Nat) (runs : LaneRuns) : Bool :=
  runs[0].bytes.length ≤ n && runs[1].bytes.length ≤ n && runs[2].bytes.length ≤ n && runs[3].bytes.length ≤ n

/-- A write the register window ignores: narrower than 32 bits, or one that reaches no writable register (spec 10 R160). -/
def ignoredWrite (offset width : Nat) : Bool :=
  (1 ≤ width && width ≤ 3) || (width = 4 && !writableOffsets.contains offset)
    || (width = 8 && offset % 8 = 0 && !writableOffsets.contains offset && !writableOffsets.contains (offset + 4))

/-- The command is one its row describes. -/
def Instr.wellFormed : Instr → Bool
  | .unknownCode code => !knownRunCodes.contains code
  | .ignoredRegisterWrite offset width _ => ignoredWrite offset width
  | .alignmentWordMatch _ run => run.bytes.length ≤ longestRun
  | .verifyHeader runs | .verifyBoundary runs | .lockedBoundary runs | .lockedHeader runs | .boundarySearch runs =>
      eachLaneAtMost longestRun runs
  | .packetComplete last => eachLaneAtMost longestRun last.runs
  | .start | .stop | .abort | .clearFault | .reset | .attention _ | .attentionEnable _ | .anchorLo _ | .anchorHi _
  | .powerOnReset | .portReset | .verifyExtentEnd | .gapTimeout | .linkWordAnswer _ _ | .poolTableAnswer _ _ | .startSelectorAnswer _ _
  | .startPageAnswer _ _ | .selectorAnswer _ _ | .pageAnswer _ _ | .adoptionWordResponse _ _ | .linkTallyResponse _ _
  | .claimServiceStart _ | .slotReadAnswer _ _ | .claimAnswer _ _ | .refusalAnswer _ _ | .firstWriteAnswer _ _
  | .returnAnswer _ _ | .admission | .rowWriteResponse _ _ | .metadataCopyResponse _ _ | .sealingEntry _
  | .frameRecordResponse _ _ | .sealingAnswer _ _ | .viewTallyResponse _ _ | .runStopped => true

end Sys2Proof
end

