-- ==== Sys2Proof/Certificates/Slice0/Obligations.lean ====
section
/-! DEFINITION. The statements for the provers. A clause of the form `{ t with f := s.f } = s` says that only the fields named there
may differ. -/

open Sys2Proof Sys2Proof.Machine

/-! ### The step -/

/-- The front command of the queue is run on the state with the queue's rest. -/
def Obligations.StepRunsFrontCommand : Prop :=
  ∀ (s : State) (c : Instr) (rest : List Instr),
    s.pending = c :: rest → step s = exec c { s with pending := rest }

/-- The model's choice (log 4): with no command waiting the part posts its own next step, the first that is due of the gap deadline,
RUN_STOPPED, an entry to SEALING, an admission and a claim service, each for the lowest channel or pool it is due for; with none due
one microsecond passes; nothing else changes. -/
def Obligations.EmptyQueueStep : Prop :=
  ∀ s : State, s.pending = [] →
    let gap : Prop := s.tracker.state ≠ .idle ∧ s.tracker.deadline = some s.timebase
    let stops : Prop := s.stopReady
    let seals : Prop := ∃ k, s.sealReady k
    let admits : Prop := s.live ∧ s.queue.entries.length < 32 ∧ (s.queue.requests ≠ [] ∨ ∃ k, s.rowReady k)
    (gap → step s = .next { s with pending := [.gapTimeout] })
      ∧ (¬gap → stops → step s = .next { s with pending := [.runStopped] })
      ∧ (∀ k : ViewId, ¬gap → ¬stops → s.sealReady k → (∀ j : ViewId, j < k → ¬s.sealReady j) →
          step s = .next { s with pending := [.sealingEntry k] })
      ∧ (¬gap → ¬stops → ¬seals → admits → step s = .next { s with pending := [.admission] })
      ∧ (∀ p : PoolId, ¬gap → ¬stops → ¬seals → ¬admits → s.serveReady p → (∀ q : PoolId, q < p → ¬s.serveReady q) →
          step s = .next { s with pending := [.claimServiceStart p] })
      ∧ (¬gap → ¬stops → ¬seals → ¬admits → (∀ p, ¬s.serveReady p) →
          step s = .next { s with timebase := s.timebase + 1 })

/-- No command stops the part, takes a command from the queue, or changes an enable unless it is a write of the enables or a hard
reset. -/
def Obligations.CommandsKeepQueueAndEnables : Prop :=
  ∀ (c : Instr) (s : State),
    ∃ t, exec c s = .next t ∧ t.pending = s.pending
      ∧ (c.wellFormed = true → c ≠ .powerOnReset → c ≠ .portReset → (∀ v, c ≠ .attentionEnable v) →
          t.attention.enables = s.attention.enables)

/-! ### Commands written to RUN, and resets -/

/-- R163 and Table 10-5: how every write to RUN is judged, what it records, and what RUN reads, with the codes of Tables 10-3 and 10-4. -/
def Obligations.RunCommandsJudged : Prop :=
  (∀ (s : State) (c : Instr), c = .start ∨ c = .stop ∨ c = .abort ∨ c = .clearFault →
      acceptedIn c s.run.state = false →
      exec c s = .next { s with run := { s.run with result := .refusedState } })
    ∧ (∀ (s : State) (code : Word), (Instr.unknownCode code).wellFormed = true →
        exec (.unknownCode code) s = .next { s with run := { s.run with result := .refusedCode } })
    ∧ (∀ s : State, s.run.state = .stopped → s.run.anchor.toNat % 4096 ≠ 0 →
        exec .start s = .next { s with run := { s.run with result := .refusedAnchor } })
    ∧ (∀ s : State, s.run.state = .fault → s.outstandingCount ≠ 0 →
        exec .clearFault s = .next { s with run := { s.run with result := .busy } })
    ∧ (∀ (s : State) (c : Instr), c = .start ∨ c = .stop ∨ c = .abort ∨ c = .clearFault →
        acceptedIn c s.run.state = true → (c = .start → s.run.anchor.toNat % 4096 = 0) →
        (c = .clearFault → s.outstandingCount = 0) →
        ∃ t, exec c s = .next t ∧ t.run.result = .accepted)
    ∧ (∀ s : State, ∃ t, exec .reset s = .next t ∧ t.run.result = .none)
    ∧ (∀ (s : State) (tag : Nat), s.run.state = .starting → s.awaitsWrite tag .adoptionWord →
        (s.run.progress = .adopted →
          ∃ t, exec (.adoptionWordResponse tag .ok) s = .next t ∧ t.run.state = .running ∧ t.run.result = .started)
        ∧ (s.run.progress = .failed →
          ∃ t, exec (.adoptionWordResponse tag .ok) s = .next t ∧ t.run.state = .stopped
            ∧ t.run.result = .startFailed))
    ∧ (∀ s : State, (s.readRegister 0x04).extractLsb' 0 3 = BitVec.ofNat 3 s.run.state.code
        ∧ (s.readRegister 0x04).extractLsb' 3 5 = 0
        ∧ (s.readRegister 0x04).extractLsb' 8 4 = BitVec.ofNat 4 s.run.result.code
        ∧ (s.readRegister 0x04).extractLsb' 12 20 = 0)
    ∧ [RunState.stopped, .starting, .running, .stopping, .aborting, .fault].map RunState.code = [0, 1, 2, 3, 4, 5]
    ∧ [CommandResult.none, .accepted, .started, .startFailed, .refusedState, .refusedCode, .refusedAnchor, .busy].map
        CommandResult.code = [0, 1, 2, 3, 4, 5, 6, 7]
    ∧ (∀ s : State, s.run.state = .running →
        (∃ t u, exec .stop s = .next t ∧ t.run.state = .stopping ∧ t.readRegister 0x04 = 0x00000103
          ∧ exec .abort t = .next u ∧ u.run.state = .aborting ∧ u.run.result = .accepted)
        ∧ ∃ t u, exec .abort s = .next t ∧ t.run.state = .aborting
          ∧ exec .stop t = .next u ∧ u.run.state = .aborting ∧ u.run.result = .refusedState)

/-- START taken in STOPPED with ANCHOR aligned enters STARTING and reads the link word; STOP taken in RUNNING enters STOPPING and
marks a fetch in flight. -/
def Obligations.StartAndStopAccepted : Prop :=
  (∀ s : State, s.run.state = .stopped → s.run.anchor.toNat % 4096 = 0 →
      exec .start s = .next
        { s with
          run := { s.run with state := .starting, result := .accepted, progress := .linkWord }
          port :=
            { entries := s.port.entries ++
                [{ tag := s.port.nextTag, role := .linkWord, access := .read (s.run.anchor + 0x008) 4 }]
              nextTag := s.port.nextTag + 1 } })
    ∧ ∀ s : State, s.run.state = .running →
        exec .stop s = .next
          { s with
            run := { s.run with state := .stopping, result := .accepted }
            plan := { s.plan with discard := s.plan.discard || s.plan.fetch != .quiet } }

/-- ABORT taken in STARTING ends the START sequence and leaves every other block; an answer to a read of it is then discarded
unjudged, ERROR included, and no read follows. -/
def Obligations.AbortInStarting : Prop :=
  (∀ s : State, s.run.state = .starting →
      exec .abort s = .next
        { s with
          run := { s.run with state := .aborting, result := .accepted, progress := .none }
          plan := { s.plan with discard := s.plan.discard || s.plan.fetch != .quiet } })
    ∧ (∀ (s : State) (tag : Nat) (a : ReadAnswer 32), s.run.state = .aborting → s.awaits tag .linkWord →
        exec (.linkWordAnswer tag a) s = .next (s.dropPort tag))
    ∧ (∀ (s : State) (tag : Nat) (a : ReadAnswer 512), s.run.state = .aborting → s.awaits tag .poolTable →
        exec (.poolTableAnswer tag a) s = .next (s.dropPort tag))
    ∧ (∀ (s : State) (tag : Nat) (a : ReadAnswer 64), s.run.state = .aborting → s.awaits tag .startSelector →
        exec (.startSelectorAnswer tag a) s = .next
          { s.dropPort tag with plan := { s.plan with fetch := .quiet, selector := none, discard := false } })
    ∧ ∀ (s : State) (tag : Nat) (a : ReadAnswer 8192), s.run.state = .aborting → s.awaits tag .startPage →
        exec (.startPageAnswer tag a) s = .next
          { s.dropPort tag with plan := { s.plan with fetch := .quiet, selector := none, discard := false } }

/-- ABORT taken in RUNNING or STOPPING: every CLAIMING and ACTIVE view frame is abandoned with ABORTED, a TAKEN slot with no
compare-exchange issued is given back, the tracker's frame is truncated, a fetch in flight is marked, and nothing else of the part
changes. That a channel takes the ABORT before the notices of the truncation, so that no copy comes due in HEADER, is the model's reading
(log 24). -/
def Obligations.AbortInRun : Prop :=
  ∀ s : State, s.run.state = .running ∨ s.run.state = .stopping →
    let accepted : State :=
      { s with
        run := { s.run with state := .aborting, result := .accepted, progress := .none }
        plan := { s.plan with discard := s.plan.discard || s.plan.fetch != .quiet } }
    let t := (eachOf (State.takesAbort s.timebase) accepted).truncates .aborted
    exec .abort s = .next t
      ∧ t.tracker =
          { s.tracker with
            state := .idle
            deadline := if s.tracker.state = .idle then s.tracker.deadline else none
            framesTruncated := s.tracker.framesTruncated + (if s.tracker.state = .idle then 0 else 1) }
      ∧ (s.tracker.state ≠ .idle → t.waitingFor .linkTally = true)
      ∧ (∀ k : ViewId, (s.channel k).state ≠ .claiming → (s.channel k).state ≠ .active → t.channel k = s.channel k)
      ∧ (∀ (k : ViewId) (v : ViewFrame), (s.channel k).state = .claiming → (s.channel k).frame = some v →
          v.abandoned = none →
          t.channel k = { s.channel k with state := .returning, frame := some (leftBehind v .aborted s.timebase) })
      ∧ (∀ (k : ViewId) (v : ViewFrame), (s.channel k).state = .active → (s.channel k).frame = some v →
          v.abandoned = none →
          (v.firstWrite = .notIssued →
            t.channel k = { s.channel k with state := .returning, frame := some (leftBehind v .aborted s.timebase) }
              ∧ ∀ x, v.slot = some x → ∃ e ∈ t.port.entries, e.role = .giveBack k
                  ∧ e.access = .compareExchange (s.slotAddress x.pool x.index) x.word (recoded x.word 0x01))
          ∧ (v.firstWrite = .outstanding →
            t.channel k = { s.channel k with state := .flushing, frame := some (leftBehind v .aborted s.timebase) })
          ∧ (v.firstWrite = .exchanged →
            t.channel k =
                { s.channel k with
                  state := .flushing
                  frame := some { leftBehind v .aborted s.timebase with staging := withdrawnFrom v.staging } }
              ∧ t.waitingFor (.metadataCopy k) = false))
      ∧ { t with
          run := s.run, tracker := s.tracker, plan := s.plan, channels := s.channels, queue := s.queue,
          port := s.port } = s
      ∧ t.queue.entries = s.queue.entries ∧ t.queue.pointer = s.queue.pointer

/-- R171: CLEAR_FAULT is accepted in FAULT when nothing is outstanding and refused with BUSY before; an answer that arrives in FAULT
only counts its transaction off; nothing but an accepted CLEAR_FAULT and the resets leaves FAULT. -/
def Obligations.ClearFaultAndFaultState : Prop :=
  (∀ s : State, s.run.state ≠ .fault →
      exec .clearFault s = .next { s with run := { s.run with result := .refusedState } })
    ∧ (∀ s : State, s.run.state = .fault → s.port.entries = [] → s.queue.entries = [] →
        exec .clearFault s = .next { s with run := { s.run with state := .stopped, result := .accepted } })
    ∧ (∀ s : State, s.run.state = .fault → s.port.entries ≠ [] ∨ s.queue.entries ≠ [] →
        exec .clearFault s = .next { s with run := { s.run with result := .busy } })
    ∧ (∀ (s : State) (c : Instr) (r : PortRole) (tag : Nat), s.run.state = .fault → answersTo c r = some tag →
        s.awaits tag r → exec c s = .next (s.dropPort tag))
    ∧ (∀ (s : State) (c : Instr) (r : WriteRole) (tag : Nat), s.run.state = .fault → respondsTo c r = some tag →
        s.awaitsWrite tag r → exec c s = .next (s.dropWrite tag))
    ∧ ∀ (s t : State) (c : Instr), s.run.state = .fault → c.wellFormed = true → exec c s = .next t →
        c ≠ .reset → c ≠ .powerOnReset → c ≠ .portReset → c ≠ .clearFault →
        t.run.state = .fault ∧ t.outstandingCount ≤ s.outstandingCount

/-- What each reset leaves, in every block; the outstanding transactions are forgotten, and an answer to one of
them changes nothing. The tag count is the model's own (log 2, log 20), and so are the progress and the lane count of START (log 15) and the first block
of an empty allocation (log 25). -/
def Obligations.ResetsSetEveryBlock : Prop :=
  let fresh (anchor : DWord) (enables : BitVec 14) (timebase : DWord) (tag : Nat) (pending : List Instr) : State :=
    { run :=
        { state := .stopped, result := .none, anchor := anchor, progress := .none, lanesRead := 0,
          pools := #v[none, none, none, none] }
      attention := { flags := 0, enables := enables }
      timebase := timebase
      receiver :=
        { state := .off, lanes := 0, positions := #v[none, none, none, none], verifyCount := 0, badCount := 0,
          phase := .idle, packet := none, held := #v[[], [], [], []], headerErrors := 0, lengthErrors := 0, checkErrors := 0, lockLosses := 0 }
      tracker :=
        { state := .idle, frameNumber := 0, width := 0, height := 0, depth := 0, nextRow := 0, deadline := none,
          gapLimit := 0, startTime := 0,
          banks := #v[{ bytes := [], rows := 0, truncated := false }, { bytes := [], rows := 0, truncated := false }],
          currentBank := 1, framesStarted := 0, framesEnded := 0, framesTruncated := 0, orderErrors := 0,
          strayPackets := 0, gapTimeouts := 0 }
      plan :=
        { adopted := none, candidate := none, fetch := .quiet, selector := none, discard := false, remembered := none,
          report :=
            { adoptedSequence := 0, adoptionFrame := 0, rejectedSequence := 0, reason := .none, rejectedView := 0xFF,
              deferrals := 0, transients := 0, discards := 0 } }
      scanners := Vector.replicate 4 { definition := none, cursor := 0, state := .ready, queue := [], service := none }
      channels :=
        Vector.replicate 8
          { state := .idle, frame := none,
            tally :=
              { delivered := 0, torn := 0, returned := 0, skipped := 0, lost := 0, lastFrame := 0, lastClass := .none,
                lastCause := .none } }
      allocations := Vector.replicate 8 { first := 0, accumulatorBlocks := 0, stagingBlocks := 0 }
      queue := { entries := [], requests := [], pointer := 0 }
      port := { entries := [], nextTag := tag }
      pending := pending }
  State.reset = fresh 0 0 0 0 []
    ∧ (∀ s : State, exec .reset s = .next (fresh s.run.anchor s.attention.enables s.timebase s.port.nextTag s.pending))
    ∧ (∀ s : State, exec .powerOnReset s = .next (fresh 0 0 0 s.port.nextTag s.pending))
    ∧ (∀ s : State, exec .portReset s = .next (fresh 0 0 0 s.port.nextTag s.pending))
    ∧ (∀ a e b n p, (fresh a e b n p).interruptLine = false ∧ (fresh a e b n p).readRegister 0x18 = 0
        ∧ (fresh a e b n p).readRegister 0x04 = 0)
    ∧ (∀ a e b n p (c : Instr) (r : PortRole) (tag : Nat), answersTo c r = some tag →
        exec c (fresh a e b n p) = .next (fresh a e b n p))
    ∧ ∀ a e b n p (c : Instr) (r : WriteRole) (tag : Nat), respondsTo c r = some tag →
        exec c (fresh a e b n p) = .next (fresh a e b n p)

/-! ### The register window -/

/-- A write to ATTENTION clears exactly the flags written 1, a raise sets exactly its flag, and the commands to RUN other than RESET
leave flags and enables; each cause has its bit of Table 10-6. -/
def Obligations.AttentionFlags : Prop :=
  (∀ (s : State) (value : Word),
      exec (.attention value) s = .next
        { s with attention := { s.attention with flags := s.attention.flags &&& ~~~(value.extractLsb' 0 14) } })
    ∧ (∀ (s : State) (c : AttentionCause) (i : Nat), i < 14 →
        (s.raise c).attention.flags.getLsbD i = (s.attention.flags.getLsbD i || decide (i = c.bit)))
    ∧ (∀ (s : State) (c : AttentionCause) (value : Word), value.getLsbD c.bit = true →
        ((s.raise c).clearFlags value).flagged c = false ∧ ((s.clearFlags value).raise c).flagged c = true)
    ∧ [AttentionCause.frameFilled, .frameTorn, .frameSkipped, .slotRefused, .slotStolen, .poolFault, .planAdopted, .planRejected,
        .adoptionDeferred, .linkLocked, .linkLost, .formatMismatch, .runStopped, .fault].map AttentionCause.bit =
      [0, 1, 2, 3, 4, 5, 6, 7, 8, 9, 10, 11, 12, 13]
    ∧ (∀ s : State, s.readRegister 0x08 = s.attention.flags.setWidth 32)
    ∧ ∀ (s t : State) (c : Instr), c = .start ∨ c = .stop ∨ c = .abort ∨ c = .clearFault → exec c s = .next t →
        t.attention = s.attention

/-- R174: the enables, and the interrupt line as it follows flags and enables. -/
def Obligations.EnablesAndInterruptLine : Prop :=
  (∀ (s : State) (value : Word),
      exec (.attentionEnable value) s = .next
        { s with attention := { s.attention with enables := value.extractLsb' 0 14 } })
    ∧ (∀ s : State, s.readRegister 0x0C = s.attention.enables.setWidth 32)
    ∧ (∀ s : State, s.interruptLine = true ↔
        ∃ i, i < 14 ∧ s.attention.flags.getLsbD i = true ∧ s.attention.enables.getLsbD i = true)
    ∧ (∀ (s : State) (c : AttentionCause), s.attention.enables.getLsbD c.bit = true → (s.raise c).interruptLine = true)
    ∧ (∀ (s : State) (value : Word), (∀ i, i < 14 → s.attention.flags.getLsbD i = true →
          s.attention.enables.getLsbD i = true → value.getLsbD i = true) → (s.clearFlags value).interruptLine = false)
    ∧ (∀ (s : State) (value : Word) (c : AttentionCause), s.flagged c = true → value.getLsbD c.bit = true →
        (s.setEnables value).interruptLine = true)
    ∧ ∀ s : State, (s.setEnables 0).interruptLine = false ∧ (s.setEnables 0).attention.flags = s.attention.flags

/-- A write to a half of ANCHOR replaces that half in STOPPED, and changes nothing otherwise; both halves read back. -/
def Obligations.AnchorWrites : Prop :=
  (∀ (s : State) (value : Word), s.run.state = .stopped →
      exec (.anchorLo value) s = .next
          { s with run := { s.run with anchor := s.run.anchor.extractLsb' 32 32 ++ value } }
        ∧ exec (.anchorHi value) s = .next
          { s with run := { s.run with anchor := value ++ s.run.anchor.extractLsb' 0 32 } })
    ∧ (∀ (s : State) (value : Word), s.run.state ≠ .stopped →
        exec (.anchorLo value) s = .next s ∧ exec (.anchorHi value) s = .next s)
    ∧ ∀ s : State, s.readRegister 0x14 ++ s.readRegister 0x10 = s.run.anchor

/-- An ignored write changes nothing; a write of 64 bits at a multiple of 8 is two writes of 32 bits, the lower offset first; an unlisted
offset reads 0, at each width; a read of some bytes of a register returns those bytes of it, and one of 64 bits the two registers it
covers. That a width the window does not have is ignored, and so is a write of 64 bits at an offset that is no multiple of 8, is the
model's choice (log 16). -/
def Obligations.WindowIgnoresAndNarrowReads : Prop :=
  (∀ (s : State) (offset width : Nat) (value : DWord),
      (Instr.ignoredRegisterWrite offset width value).wellFormed = true ∨ (width ≠ 4 ∧ width ≠ 8)
        ∨ (width = 8 ∧ offset % 8 ≠ 0) →
      exec (.ignoredRegisterWrite offset width value) s = .next s)
    ∧ (∀ (s t : State) (offset : Nat) (value : DWord), offset % 8 = 0 →
        exec (.ignoredRegisterWrite offset 4 value) s = .next t →
        exec (.ignoredRegisterWrite offset 8 value) s = exec (.ignoredRegisterWrite (offset + 4) 4 (value >>> 32)) t)
    ∧ (∀ (s : State) (value : DWord),
        let low := value.extractLsb' 0 32
        exec (.ignoredRegisterWrite 0x08 4 value) s = exec (.attention low) s
          ∧ exec (.ignoredRegisterWrite 0x0C 4 value) s = exec (.attentionEnable low) s
          ∧ exec (.ignoredRegisterWrite 0x10 4 value) s = exec (.anchorLo low) s
          ∧ exec (.ignoredRegisterWrite 0x14 4 value) s = exec (.anchorHi low) s
          ∧ exec (.ignoredRegisterWrite 0x04 4 value) s = exec (.unknownCode low) s)
    ∧ (∀ (s : State) (offset : Nat), offset ∉ [0x00, 0x04, 0x08, 0x0C, 0x10, 0x14, 0x18] → s.readRegister offset = 0)
    ∧ (∀ (s : State) (offset width i : Nat), i < width → offset % 4 + width ≤ 4 →
        (s.readWindow offset width)[i]? =
          some ((s.readRegister (offset / 4 * 4)).extractLsb' (8 * (offset % 4 + i)) 8))
    ∧ (∀ (s : State) (offset width : Nat), width = 4 ∨ width = 8 →
        offset ∉ [0x00, 0x04, 0x08, 0x0C, 0x10, 0x14, 0x18] → s.readWindow offset width = List.replicate width 0)
    ∧ (∀ (s : State) (offset width : Nat), width < 4 → offset / 4 * 4 ∉ [0x00, 0x04, 0x08, 0x0C, 0x10, 0x14, 0x18] →
        s.readWindow offset width = List.replicate width 0)
    ∧ ∀ (s : State) (offset : Nat), offset % 8 = 0 →
        s.readWindow offset 8 = s.readWindow offset 4 ++ s.readWindow (offset + 4) 4

/-- IDENT, and LINK_STATUS bit by bit. The lanes in use are 0, 1, 2 or 4, as ReceiverKeepsPromises states. -/
def Obligations.IdentAndLinkStatus : Prop :=
  (∀ s : State, s.readRegister 0x00 = 0x42080001)
    ∧ (∀ s : State, s.receiverBounded →
        (s.readRegister 0x18).extractLsb' 0 2 =
            (match s.receiver.state with
              | .off => 0#2
              | .hunt => 1#2
              | .verify => 2#2
              | .locked => 3#2)
          ∧ (s.readRegister 0x18).extractLsb' 2 2 = 0
          ∧ ((s.readRegister 0x18).extractLsb' 4 3).toNat = s.receiver.lanes
          ∧ (s.readRegister 0x18).extractLsb' 7 1 = 0
          ∧ (s.readRegister 0x18).getLsbD 8 = (s.tracker.state == .header || s.tracker.state == .body)
          ∧ (s.readRegister 0x18).extractLsb' 9 23 = 0)
    ∧ ∀ (s t : State) (c : Instr), c = .reset ∨ c = .powerOnReset ∨ c = .portReset → exec c s = .next t →
        t.readRegister 0x18 = 0

/-! ### The sensor link -/

/-- In HUNT, and in LOCKED while it searches after a failed header check, the first alignment word among the bytes a lane has carried
records the lane's position, and completes a boundary when every lane in use has one within 16 byte periods; the bytes after it stay. No
word, a lane not in use, and a receiver that does not search only leave the bytes held; OFF ignores them. The search of LOCKED takes
the words in the order they arrived, to the boundary or to the last byte (bytes, arrivals and the order of words that arrive together as
logs 6, 11 and 21 have them). That ALIGNMENT_WORD_MATCH and BOUNDARY_SEARCH in a receiver that does not search only leave the bytes held
is the model's choice (log 3). -/
def Obligations.AlignmentWordSearches : Prop :=
  let searching (s : State) : Prop :=
    s.receiver.state = .hunt ∨ (s.receiver.state = .locked ∧ s.receiver.phase = .search)
  (∀ (s : State) (lane : LaneId) (run : LaneRun) (n a : Nat), searching s → lane.val < s.receiver.lanes →
      let held := s.receiver.holding (runOn lane run)
      FirstWord held[lane] n a →
      let p := s.receiver.positions.set lane (some a)
      let found : Receiver :=
        { s.receiver with positions := p, held := held.set lane (held[lane].drop (n + 4)) }
      let boundary : Prop :=
        ∃ at' : LaneId → Nat, (∀ j : LaneId, j.val < s.receiver.lanes → p[j] = some (at' j))
          ∧ ∀ i j : LaneId, i.val < s.receiver.lanes → j.val < s.receiver.lanes → at' i ≤ at' j + 16
      (boundary → s.receiver.state = .hunt →
        exec (.alignmentWordMatch lane run) s = .next
          { s with receiver := { found with state := .verify, verifyCount := 0, phase := .header, packet := none } })
      ∧ (boundary → s.receiver.state = .locked →
        exec (.alignmentWordMatch lane run) s = .next
          { s with receiver := { found with phase := .header, packet := none } })
      ∧ (¬boundary → exec (.alignmentWordMatch lane run) s = .next { s with receiver := found }))
    ∧ (∀ (s : State) (lane : LaneId) (run : LaneRun), s.receiver.state ≠ .off →
        ¬searching s ∨ s.receiver.lanes ≤ lane.val
          ∨ (∀ n, ¬WordAt (s.receiver.holding (runOn lane run))[lane] n) →
        exec (.alignmentWordMatch lane run) s = .next (s.lanesHold (runOn lane run)))
    ∧ (∀ (s : State) (lane : LaneId) (run : LaneRun) (runs : LaneRuns) (between : List NoticeStep),
        s.receiver.state = .off →
        ∀ c ∈ [Instr.alignmentWordMatch lane run, .verifyHeader runs, .verifyBoundary runs, .verifyExtentEnd,
            .lockedBoundary runs, .lockedHeader runs, .boundarySearch runs, .packetComplete ⟨runs, between⟩],
          exec c s = .next s)
    ∧ (∀ (s : State) (runs : LaneRuns), s.receiver.state ≠ .off →
        ¬(s.receiver.state = .locked ∧ s.receiver.phase = .search)
          ∨ (∀ j : LaneId, j.val < s.receiver.lanes → ∀ n, ¬WordAt (s.receiver.holding runs)[j] n) →
        exec (.boundarySearch runs) s = .next (s.lanesHold runs))
    ∧ ∀ (s t : State) (runs : LaneRuns) (i : LaneId) (n a : Nat), s.receiver.state = .locked → s.receiver.phase = .search →
        i.val < s.receiver.lanes → FirstWord (s.receiver.holding runs)[i] n a →
        (∀ (j : LaneId) (m b : Nat), j.val < s.receiver.lanes → FirstWord (s.receiver.holding runs)[j] m b →
          a < b ∨ (a = b ∧ i ≤ j)) →
        exec (.alignmentWordMatch i ⟨[], 0⟩) (s.lanesHold runs) = .next t →
        (t.receiver.phase = .header → exec (.boundarySearch runs) s = .next t)
          ∧ (t.receiver.phase ≠ .header → exec (.boundarySearch runs) s = exec (.boundarySearch noBytes) t)

/-- The header check, by its value over the seven bytes and by the remainder of all eight; the header's fields, kinds and goodness; and
the trailer code, bit by bit. -/
def Obligations.HeaderCheckCode : Prop :=
  (∀ (n : Nat) (poly register : BitVec n) (bit : Bool),
      crcBit poly register bit =
        if register.msb = bit then register <<< 1 else (register <<< 1) ^^^ poly)
    ∧ (∀ b : Byte, bitsLeastFirst b = [b[0], b[1], b[2], b[3], b[4], b[5], b[6], b[7]]
        ∧ bitsMostFirst b = [b[7], b[6], b[5], b[4], b[3], b[2], b[1], b[0]])
    ∧ (∀ bytes : List Byte, crc8 bytes =
        bytes.foldl (fun register b => (bitsMostFirst b).foldl (crcBit 0x07#8) register) 0x00)
    ∧ crc8 [0x31, 0x32, 0x33, 0x34, 0x35, 0x36, 0x37, 0x38, 0x39] = 0xF4
    ∧ (∀ h : BitVec 64, headerBytes h = (List.range 8).map fun i => h.extractLsb' (8 * i) 8)
    ∧ (∀ h : BitVec 64, headerCheckPasses h = true ↔ h.extractLsb' 56 8 = crc8 ((headerBytes h).take 7))
    ∧ (∀ h : BitVec 64, headerCheckPasses h = true ↔ crc8 (headerBytes h) = 0)
    ∧ headerCheckPasses 0 = true
    ∧ (∀ h : BitVec 64,
        headerKind h =
            (match (h.extractLsb' 0 8).toNat with
              | 0x01 => some .frameStart
              | 0x02 => some .metaRow
              | 0x03 => some .pixelRow
              | 0x04 => some .frameEnd
              | 0x0F => some .fill
              | _ => none)
          ∧ headerNumber h = h.extractLsb' 8 16 ∧ headerLength h = (h.extractLsb' 24 24).toNat
          ∧ headerLanes h = (h.extractLsb' 48 8).toNat)
    ∧ (∀ (lanes : Nat) (h : BitVec 64), headerGood lanes h = true ↔
        headerCheckPasses h = true ∧ headerKind h ≠ none ∧ (h.extractLsb' 48 8).toNat = lanes)
    ∧ (∀ (bytes : List Byte) (i : Nat), i < 32 →
        (crc32 bytes).getLsbD i =
          !(bytes.foldl (fun register b => (bitsLeastFirst b).foldl (crcBit 0x04C11DB7#32) register) 0xFFFFFFFF).getLsbD
              (31 - i))
    ∧ crc32 [0x31, 0x32, 0x33, 0x34, 0x35, 0x36, 0x37, 0x38, 0x39] = 0xCBF43926

/-- R65: the payload lengths each kind accepts. -/
def Obligations.PayloadLengthsAccepted : Prop :=
  ∀ (s : State) (n : Nat),
    (s.lengthAccepted .frameStart n = true ↔ n = 5)
      ∧ (s.lengthAccepted .metaRow n = true ↔ 1 ≤ n ∧ n ≤ 4096)
      ∧ (s.lengthAccepted .frameEnd n = true ↔ n = 0)
      ∧ (s.lengthAccepted .fill n = true ↔ n = 0)
      ∧ (s.tracker.state ≠ .idle →
          (s.lengthAccepted .pixelRow n = true ↔
            8 * n < s.tracker.width.toNat * s.tracker.depth.toNat + 8
              ∧ s.tracker.width.toNat * s.tracker.depth.toNat ≤ 8 * n))
      ∧ (s.tracker.state = .idle → (s.lengthAccepted .pixelRow n = true ↔ n ≤ 14336))

/-- A packet laid on one, two or four lanes is rebuilt from its shares, whatever each lane carries after its share, and not before every
lane carries its share; each share is the count of its indices. -/
def Obligations.StripingRebuilds : Prop :=
  ∀ (lanes : Nat) (bytes : List Byte), lanes = 1 ∨ lanes = 2 ∨ lanes = 4 →
    (∀ j : LaneId, ((stripeOver lanes bytes)[j]).length = laneShare lanes bytes.length j.val
        ∧ laneShare lanes bytes.length j.val = ((List.range bytes.length).filter fun i => i % lanes = j.val).length)
      ∧ (∀ held : LaneBytes, (∀ j : LaneId, ∃ more, held[j] = (stripeOver lanes bytes)[j] ++ more) →
          rebuild lanes held bytes.length = some bytes)
      ∧ ∀ (held : LaneBytes) (n : Nat),
          rebuild lanes held n = none ↔ ∃ j : LaneId, j.val < lanes ∧ held[j].length < laneShare lanes n j.val

/-- A header judged in VERIFY: one that passes raises the verify count, any other returns the receiver to HUNT; until every lane has
carried its share the bytes are held. That HUNT begins with the next byte is the model's choice (log 21). -/
def Obligations.HeaderInVerify : Prop :=
  ∀ (s : State) (runs : LaneRuns), s.receiver.state = .verify → s.receiver.phase = .header →
    let held := s.receiver.holding runs
    (rebuild s.receiver.lanes (valuesOf held) 8 = none → exec (.verifyHeader runs) s = .next (s.lanesHold runs))
    ∧ ∀ h : BitVec 64, rebuild s.receiver.lanes (valuesOf held) 8 = some (headerBytes h) →
      let passes : Prop :=
        headerGood s.receiver.lanes h = true
          ∧ ∃ kind, headerKind h = some kind
            ∧ headerLength h ≤
              (match kind with
                | .frameStart => 5
                | .metaRow => 4096
                | .pixelRow => 14336
                | .frameEnd => 0
                | .fill => 0)
      (passes →
        exec (.verifyHeader runs) s = .next
          { s with
            receiver :=
              { s.receiver with
                verifyCount := s.receiver.verifyCount + 1
                phase := .boundary
                packet := some h
                held := taking held fun j => laneShare s.receiver.lanes 8 j.val } })
      ∧ (¬passes → exec (.verifyHeader runs) s = .next { s with receiver := huntFrom s.receiver })

/-- The boundary after a first or second header in VERIFY, at the end of its extent; and the end of the third header's extent: LOCKED,
with LINK_LOCKED raised. Until the lanes have carried the extent, and four bytes more at a boundary, the bytes are held (log 21). -/
def Obligations.VerifyToLocked : Prop :=
  (∀ (s : State) (runs : LaneRuns), s.receiver.state = .verify → s.receiver.phase = .boundary →
      s.receiver.verifyCount < 3 →
      let held := s.receiver.holding runs
      (¬s.receiver.reaches held 4 → exec (.verifyBoundary runs) s = .next (s.lanesHold runs))
      ∧ (s.receiver.reaches held 4 → s.receiver.boundaryPresent held →
        exec (.verifyBoundary runs) s = .next
          { s with
            receiver :=
              { s.receiver with
                phase := .header, packet := none, held := taking held fun j => s.receiver.toBoundary j + 4 } })
      ∧ (s.receiver.reaches held 4 → ¬s.receiver.boundaryPresent held →
        exec (.verifyBoundary runs) s = .next { s with receiver := huntFrom s.receiver }))
    ∧ ∀ s : State, s.receiver.state = .verify → s.receiver.phase = .boundary → s.receiver.verifyCount = 3 →
        (¬s.receiver.reaches s.receiver.held 0 → exec .verifyExtentEnd s = .next s)
        ∧ (s.receiver.reaches s.receiver.held 0 →
          exec .verifyExtentEnd s = .next
            { s with
              receiver :=
                { s.receiver with
                  state := .locked, badCount := 0, packet := none
                  held := taking s.receiver.held s.receiver.toBoundary }
              attention := { s.attention with flags := s.attention.flags ||| 0x0200 } })

/-- A trusted boundary in LOCKED, at the end of the extent: present, the header follows; absent, the lock is lost, and a frame in
progress is truncated with LINK_LOST. Until the lanes have carried the extent and four bytes more, the bytes are held (log 21). -/
def Obligations.BoundaryInLocked : Prop :=
  ∀ (s : State) (runs : LaneRuns), s.receiver.state = .locked → s.receiver.phase = .boundary →
    let held := s.receiver.holding runs
    (¬s.receiver.reaches held 4 → exec (.lockedBoundary runs) s = .next (s.lanesHold runs))
    ∧ (s.receiver.reaches held 4 → s.receiver.boundaryPresent held →
      exec (.lockedBoundary runs) s = .next
        { s with
          receiver :=
            { s.receiver with
              phase := .header, packet := none, held := taking held fun j => s.receiver.toBoundary j + 4 } })
    ∧ (s.receiver.reaches held 4 → ¬s.receiver.boundaryPresent held →
      let lost : State :=
        { s with
          receiver := { huntFrom s.receiver with lockLosses := s.receiver.lockLosses + 1 }
          attention := { s.attention with flags := s.attention.flags ||| 0x0400 } }
      exec (.lockedBoundary runs) s = .next (lost.truncates .linkLost))

/-- A header judged in LOCKED: good with an accepted length, good with another length, not good with and without a passing check, and
the second in succession that is not good; until every lane has carried its share the bytes are held. That the positions are cleared for
the search, which goes on with the bytes after the header, is the model's reading (logs 11 and 21). -/
def Obligations.HeaderInLocked : Prop :=
  ∀ (s : State) (runs : LaneRuns), s.receiver.state = .locked → s.receiver.phase = .header →
    let held := s.receiver.holding runs
    (rebuild s.receiver.lanes (valuesOf held) 8 = none → exec (.lockedHeader runs) s = .next (s.lanesHold runs))
    ∧ ∀ h : BitVec 64, rebuild s.receiver.lanes (valuesOf held) 8 = some (headerBytes h) →
    let rest := taking held fun j => laneShare s.receiver.lanes 8 j.val
    (∀ kind, headerGood s.receiver.lanes h = true → headerKind h = some kind →
      s.lengthAccepted kind (headerLength h) = true →
      exec (.lockedHeader runs) s = .next
        { s with receiver := { s.receiver with badCount := 0, phase := .payload, packet := some h, held := rest } })
    ∧ (∀ kind, headerGood s.receiver.lanes h = true → headerKind h = some kind →
      s.lengthAccepted kind (headerLength h) = false →
      exec (.lockedHeader runs) s = .next
        { s with
          receiver :=
            { s.receiver with
              badCount := 0, phase := .boundary, packet := some h, held := rest,
              lengthErrors := s.receiver.lengthErrors + 1 } })
    ∧ (headerGood s.receiver.lanes h = false → s.receiver.badCount = 0 → headerCheckPasses h = true →
      exec (.lockedHeader runs) s = .next
        { s with
          receiver :=
            { s.receiver with
              badCount := 1, phase := .boundary, packet := some h, held := rest,
              headerErrors := s.receiver.headerErrors + 1 } })
    ∧ (headerGood s.receiver.lanes h = false → s.receiver.badCount = 0 → headerCheckPasses h = false →
      exec (.lockedHeader runs) s = .next
        { s with
          receiver :=
            { s.receiver with
              badCount := 1, phase := .search, packet := none, held := rest, positions := #v[none, none, none, none]
              headerErrors := s.receiver.headerErrors + 1 } })
    ∧ (headerGood s.receiver.lanes h = false → s.receiver.badCount = 1 →
      let lost : State :=
        { s with
          receiver :=
            { huntFrom s.receiver with
              headerErrors := s.receiver.headerErrors + 1, lockLosses := s.receiver.lockLosses + 1 }
          attention := { s.attention with flags := s.attention.flags ||| 0x0400 } }
      exec (.lockedHeader runs) s = .next (lost.truncates .linkLost))

/-! ### Packets and frames -/

/-- Packet bytes before the last are held (log 21); a failed trailer is counted; a FILL is consumed; a META_ROW, PIXEL_ROW or FRAME_END
out of frame is a stray; and every link event but the one the receiver waits for only leaves the bytes held, VERIFY_EXTENT_END the state
as it was, which is the model's choice (log 3). -/
def Obligations.PacketsNotPassedOn : Prop :=
  (∀ (s : State) (runs : LaneRuns) (between : List NoticeStep) (h : BitVec 64), s.receiver.state = .locked →
      s.receiver.phase = .payload → s.receiver.packet = some h →
      let carried := rebuild s.receiver.lanes (valuesOf (s.receiver.holding runs)) (bodyBytes (headerLength h))
      (carried = none → exec (.packetComplete ⟨runs, between⟩) s = .next (s.lanesHold runs))
      ∧ ∀ body, carried = some body → headerLength h ≠ 0 →
        leValue ((body.drop (headerLength h)).take 4) ≠ (crc32 (body.take (headerLength h))).toNat →
        let u := s.packetTaken runs h
        exec (.packetComplete ⟨runs, between⟩) s = .next
          { u with receiver := { u.receiver with checkErrors := s.receiver.checkErrors + 1 } })
    ∧ (∀ (s : State) (runs : LaneRuns) (between : List NoticeStep) (h : BitVec 64) (payload : List Byte),
        s.completes runs h payload →
        let u := s.packetTaken runs h
        (headerKind h = some .fill → exec (.packetComplete ⟨runs, between⟩) s = .next u)
        ∧ (s.tracker.state = .idle →
          headerKind h = some .metaRow ∨ headerKind h = some .pixelRow ∨ headerKind h = some .frameEnd →
          exec (.packetComplete ⟨runs, between⟩) s = .next
            { u with tracker := { s.tracker with strayPackets := s.tracker.strayPackets + 1 } }))
    ∧ ∀ (s : State) (runs : LaneRuns) (between : List NoticeStep), s.receiver.state ≠ .off →
        (¬(s.receiver.state = .verify ∧ s.receiver.phase = .header) →
          exec (.verifyHeader runs) s = .next (s.lanesHold runs))
        ∧ (¬(s.receiver.state = .verify ∧ s.receiver.phase = .boundary ∧ s.receiver.verifyCount < 3) →
          exec (.verifyBoundary runs) s = .next (s.lanesHold runs))
        ∧ (¬(s.receiver.state = .verify ∧ s.receiver.phase = .boundary ∧ s.receiver.verifyCount = 3) →
          exec .verifyExtentEnd s = .next s)
        ∧ (¬(s.receiver.state = .locked ∧ s.receiver.phase = .boundary) →
          exec (.lockedBoundary runs) s = .next (s.lanesHold runs))
        ∧ (¬(s.receiver.state = .locked ∧ s.receiver.phase = .header) →
          exec (.lockedHeader runs) s = .next (s.lanesHold runs))
        ∧ (¬(s.receiver.state = .locked ∧ s.receiver.phase = .payload) ∨ s.receiver.packet = none →
          exec (.packetComplete ⟨runs, between⟩) s = .next (s.lanesHold runs))

/-- A META_ROW in frame: accepted in HEADER below four rows, its bytes appended up to offset 4095; an order error otherwise; the gap
deadline restarts in every case. -/
def Obligations.MetaRowInFrame : Prop :=
  ∀ (s : State) (runs : LaneRuns) (between : List NoticeStep) (h : BitVec 64) (payload : List Byte),
    s.completes runs h payload → headerKind h = some .metaRow → s.tracker.state ≠ .idle →
    let u := s.packetTaken runs h
    let bank : Bank := s.tracker.banks[s.tracker.currentBank]
    (s.tracker.state = .header → bank.rows < 4 →
      exec (.packetComplete ⟨runs, between⟩) s = .next
        { u with
          tracker :=
            { s.tracker with
              deadline := s.deadlineNow
              banks := s.tracker.banks.set s.tracker.currentBank
                { bytes := (bank.bytes ++ payload).take 4096
                  rows := bank.rows + 1
                  truncated := bank.truncated || 4096 < bank.bytes.length + payload.length } } })
    ∧ (s.tracker.state = .body ∨ 4 ≤ bank.rows →
      exec (.packetComplete ⟨runs, between⟩) s = .next
        { u with tracker := { s.tracker with deadline := s.deadlineNow, orderErrors := s.tracker.orderErrors + 1 } })

/-- A PIXEL_ROW in frame: the metadata closed if the tracker was in HEADER; a row below the next one or beyond the height is an order
error; any other resolves the rows it passes over as missing and itself as arrived, one notice after another, each given to every
channel. Steps of the memory path taken between two notices are the model's form of R126's and R153's order (log 26); with none, the
channels that are not CLAIMING or ACTIVE, the outstanding writes and every other block stand. That the hole rows of a group that then
overflows are counted is the model's reading (log 7). -/
def Obligations.PixelRowInFrame : Prop :=
  ∀ (s : State) (runs : LaneRuns) (between : List NoticeStep) (h : BitVec 64) (payload : List Byte),
    s.completes runs h payload → headerKind h = some .pixelRow → s.tracker.state ≠ .idle →
    let row := (headerNumber h).toNat
    let opened : State :=
      { (s.packetTaken runs h).metadataClosed with
        tracker := { s.tracker with state := .body, deadline := s.deadlineNow } }
    (row < s.tracker.nextRow ∨ s.tracker.height.toNat ≤ row →
      exec (.packetComplete ⟨runs, between⟩) s = .next
        { opened with tracker := { opened.tracker with orderErrors := s.tracker.orderErrors + 1 } })
    ∧ (s.tracker.nextRow ≤ row → row < s.tracker.height.toNat →
      exec (.packetComplete ⟨runs, between⟩) s = .next
        { (opened.resolvesMissing between s.tracker.nextRow (row - s.tracker.nextRow)).resolves between row (some payload) with
          tracker := { opened.tracker with nextRow := row + 1 } })
    ∧ ∃ t, exec (.packetComplete ⟨runs, []⟩) s = .next t
      ∧ (∀ k : ViewId, (s.channel k).state ≠ .claiming → (s.channel k).state ≠ .active → t.channel k = s.channel k)
      ∧ t.queue.entries = s.queue.entries ∧ t.queue.pointer = s.queue.pointer
      ∧ { t with
          receiver := s.receiver, tracker := s.tracker, channels := s.channels, queue := s.queue, port := s.port } = s

/-- The next row of a frame in BODY, arrived, as a view frame in production takes it: outside the window nothing; a row that does not
end its group adds its weighted horizontal sums and its weight to its phase; the last row of a group finds its group finalized into a
free place, with its clipped pixels counted, and an ACTIVE channel then issues its first write and enters FLUSHING at the end of its
window; or the group overflows and the view frame is abandoned. That the hole rows of a group that overflows are counted is the model's
reading (log 7). Rows that arrive in HEADER or after missing rows are PixelRowInFrame's. -/
def Obligations.ArrivedRowReduced : Prop :=
  ∀ (s t : State) (runs : LaneRuns) (h : BitVec 64) (payload : List Byte), s.live → s.completes runs h payload →
    headerKind h = some .pixelRow → s.tracker.state = .body → (headerNumber h).toNat = s.tracker.nextRow →
    s.tracker.nextRow < s.tracker.height.toNat → exec (.packetComplete ⟨runs, []⟩) s = .next t →
    ∀ (k : ViewId) (v : ViewFrame), (s.channel k).frame = some v → (s.channel k).produces v →
      let state := (s.channel k).state
      let exchanged (role : PortRole) (x : Slot) (code : Byte) : Prop :=
        ∃ e ∈ t.port.entries, e.role = role
          ∧ e.access = .compareExchange (s.slotAddress x.pool x.index) x.word (recoded x.word code)
      (placeRow v.period v.descriptor s.tracker.nextRow = none → t.channel k = s.channel k)
      ∧ ∀ place, placeRow v.period v.descriptor s.tracker.nextRow = some place →
        let taken := rowTaken v place (some payload)
        (place.last = false → t.channel k = { s.channel k with frame := some taken })
        ∧ (place.last = true → v.staging.length < 2 →
          ∃ w, t.channel k =
              { s.channel k with
                state := if state = .active ∧ w.windowComplete = true ∧ w.firstWrite ≠ .notIssued then .flushing else state
                frame := some w }
            ∧ w.staging = v.staging ++ [taken.cellRow]
            ∧ w.accumulator = List.replicate v.period (List.replicate v.sizes.outWidth 0)
            ∧ w.present = List.replicate v.period 0 ∧ w.saturated = v.saturated + BitVec.ofNat 32 taken.clipped
            ∧ w.holeRows = v.holeRows + taken.groupHoles ∧ w.abandoned = none ∧ w.slot = v.slot
            ∧ (v.group + 1 < groupCount v.period v.descriptor → w.group = v.group + 1 ∧ w.windowComplete = false)
            ∧ (groupCount v.period v.descriptor ≤ v.group + 1 → w.windowComplete = true ∧ w.endTime = s.timebase)
            ∧ (∀ x, state = .active → v.firstWrite = .notIssued → v.slot = some x →
                w.firstWrite = .outstanding ∧ exchanged (.firstWrite k) x 0x03)
            ∧ (state = .claiming ∨ v.firstWrite ≠ .notIssued → w.firstWrite = v.firstWrite))
        ∧ (place.last = true → 2 ≤ v.staging.length →
          let cause : OutcomeCause := if state = .claiming then .lateBuffer else .overrun
          let left := leftBehind { taken with holeRows := v.holeRows + taken.groupHoles } cause s.timebase
          (state = .claiming ∨ v.firstWrite = .notIssued →
            t.channel k = { s.channel k with state := .returning, frame := some left })
          ∧ (∀ x, state = .active → v.firstWrite = .notIssued → v.slot = some x → exchanged (.giveBack k) x 0x01)
          ∧ (state = .active → v.firstWrite = .outstanding →
            t.channel k = { s.channel k with state := .flushing, frame := some left })
          ∧ (state = .active → v.firstWrite = .exchanged →
            t.channel k =
              { s.channel k with
                state := .flushing, frame := some { left with staging := withdrawnFrom v.staging } }))

/-- The arithmetic of reduction: where a row stands in a window, the columns an output column gathers, the pixels of a payload and their
weighted sums, the output values of a group and its hole rows, and the packed rows of its cell-row (conditioning is
PixelsConditioned's). -/
def Obligations.ReductionArithmetic : Prop :=
  (∀ (P : Nat) (d : Descriptor) (r : Nat), 0 < P → 0 < d.cellsV →
      (r < d.rowStart ∨ d.rowStart + d.rowCount ≤ r → placeRow P d r = none)
      ∧ (d.rowStart ≤ r → r < d.rowStart + d.rowCount →
        ∃ place, placeRow P d r = some place ∧ place.phase < P ∧ place.position < d.cellsV
          ∧ r = d.rowStart + (place.group * d.cellsV + place.position) * P + place.phase
          ∧ place.weight = d.weightV place.position
          ∧ (place.last = true ↔ place.position + 1 = d.cellsV ∧ place.phase + 1 = P)))
    ∧ (∀ (P : Nat) (d : Descriptor), groupCount P d = d.rowCount / (P * d.cellsV))
    ∧ (∀ (P : Nat) (d : Descriptor) (q cell j : Nat), q < P →
        inputColumn P d (cell * P + q) j = d.columnStart + (cell * d.cellsH + j) * P + q)
    ∧ (∀ (payload : List Byte) (depth k i : Nat),
        (pixelAt depth (pixelStream payload) k).testBit i =
          (decide (i < depth) && (payload.getD ((k * depth + i) / 8) 0).getLsbD ((k * depth + i) % 8)))
    ∧ (∀ (P depth wOut : Nat) (d : Descriptor) (payload : List Byte),
        horizontalSums P depth wOut d payload =
          (List.range wOut).map fun m =>
            ((List.range d.cellsH).map fun j =>
              d.weightH j * pixelAt depth (pixelStream payload) (inputColumn P d m j)).sum)
    ∧ (∀ den num : Nat, outputValue 0 num = 0 ∧ (0 < den → outputValue den num = (2 * num + den) / (2 * den)))
    ∧ (∀ (v : ViewFrame) (a b : Nat),
        (v.period = 1 → v.present = [a] → v.groupHoles = if a = 0 then 1 else 0)
        ∧ (v.period = 2 → v.present = [a, b] →
          v.groupHoles = (if a = 0 then 1 else 0) + (if b = 0 then 1 else 0)))
    ∧ ∀ v : ViewFrame,
        let d := v.descriptor
        let values (q : Nat) : List Nat :=
          (v.accumulator.getD q []).map fun x =>
            outputValue (((List.range d.cellsH).map d.weightH).sum * v.present.getD q 0) x.toNat
        v.cellRow =
            { rows := (List.range v.period).map fun q =>
                { number := v.group * v.period + q
                  bytes := (values q).flatMap fun a => leBytes v.sizes.pixelBytes (storedPixel v.depth d a)
                  transactions :=
                    List.replicate ((v.sizes.outWidth * v.sizes.pixelBytes + 4095) / 4096) .waiting } }
          ∧ v.clipped =
            ((List.range v.period).map fun q => ((values q).filter fun a => clips v.depth d a).length).sum

/-- A FRAME_END in frame: the metadata closed if the tracker was in HEADER, the rows still open resolved as missing, one notice after
another, the tracker's values, the link tally asked for and the fetch of RUNNING. Steps of the memory path taken between two notices are
the model's form of R126's and R153's order (log 26); with none, a last row resolved missing is counted by a view it matters to, and
abandons it with ROW_LOSS under ABANDON, and the blocks that have no part in it stand. That the hole rows of a group that then overflows
are counted is the model's reading (log 7). -/
def Obligations.FrameEndInFrame : Prop :=
  ∀ (s : State) (runs : LaneRuns) (between : List NoticeStep) (h : BitVec 64) (payload : List Byte),
    s.completes runs h payload → headerKind h = some .frameEnd → s.tracker.state ≠ .idle →
    let ended : Tracker :=
      { s.tracker with
        state := .idle
        deadline := none
        nextRow := s.tracker.height.toNat
        framesEnded := s.tracker.framesEnded + 1
        orderErrors := s.tracker.orderErrors + (if headerNumber h = s.tracker.frameNumber then 0 else 1) }
    exec (.packetComplete ⟨runs, between⟩) s = .next
        (State.frameEnds
          { (s.packetTaken runs h).metadataClosed.resolvesMissing between s.tracker.nextRow
              (s.tracker.height.toNat - s.tracker.nextRow) with
            tracker := ended })
      ∧ ∃ t, exec (.packetComplete ⟨runs, []⟩) s = .next t ∧ t.tracker = ended ∧ t.waitingFor .linkTally = true
      ∧ (s.run.state = .running ∧ s.plan.fetch = .quiet →
          t.plan = { s.plan with fetch := .selector, selector := none, discard := false }
            ∧ ∃ e ∈ t.port.entries, e.role = .selector ∧ e.access = .read s.run.anchor 8)
      ∧ (¬(s.run.state = .running ∧ s.plan.fetch = .quiet) → t.plan = s.plan)
      ∧ (∀ k : ViewId, (s.channel k).state ≠ .claiming → (s.channel k).state ≠ .active → t.channel k = s.channel k)
      ∧ (∀ (k : ViewId) (v : ViewFrame) (place : RowPlace), s.tracker.state = .body →
          s.tracker.nextRow + 1 = s.tracker.height.toNat → (s.channel k).frame = some v → (s.channel k).produces v →
          placeRow v.period v.descriptor s.tracker.nextRow = some place →
          (place.weight ≠ 0 → v.descriptor.policy = 1 →
            ∃ w, (t.channel k).frame = some w ∧ w.missingRows = v.missingRows + 1 ∧ w.abandoned = some .rowLoss
              ∧ w.endTime = s.timebase ∧ w.group = v.group ∧ w.accumulator = [])
          ∧ (place.weight ≠ 0 → v.descriptor.policy ≠ 1 → place.last = false →
            t.channel k = { s.channel k with frame := some { v with missingRows := v.missingRows + 1 } })
          ∧ (place.weight = 0 → place.last = false → t.channel k = s.channel k))
      ∧ t.queue.entries = s.queue.entries ∧ t.queue.pointer = s.queue.pointer
      ∧ { t with
          receiver := s.receiver, tracker := s.tracker, plan := s.plan, channels := s.channels, queue := s.queue,
          port := s.port } = s

/-- A FRAME_START begins a frame in every tracker state: the tracker's values, with a frame in progress counted truncated, the other
bank current and empty, and the gap deadline of the plan then in force. -/
def Obligations.FrameStartBeginsFrame : Prop :=
  ∀ (s : State) (runs : LaneRuns) (between : List NoticeStep) (h : BitVec 64) (payload : List Byte),
    s.completes runs h payload → headerKind h = some .frameStart →
    let next : BankId := if s.tracker.currentBank = 0 then 1 else 0
    ∃ (t : State) (limit : Word), exec (.packetComplete ⟨runs, between⟩) s = .next t
      ∧ limit = (match t.plan.adopted with
          | some p => p.gapLimit
          | none => 0)
      ∧ t.tracker =
          { s.tracker with
            state := .header
            frameNumber := headerNumber h
            width := BitVec.ofNat 16 (leValue (payload.take 2))
            height := BitVec.ofNat 16 (leValue ((payload.drop 2).take 2))
            depth := payload.getD 4 0
            nextRow := 0
            deadline := if limit = 0 then none else some (s.timebase + limit.setWidth 64)
            gapLimit := limit
            startTime := s.timebase
            banks := s.tracker.banks.set next { bytes := [], rows := 0, truncated := false }
            currentBank := next
            framesStarted := s.tracker.framesStarted + 1
            framesTruncated := s.tracker.framesTruncated + (if s.tracker.state = .idle then 0 else 1) }
      ∧ (s.tracker.state ≠ .idle → t.waitingFor .linkTally = true)
      ∧ t.receiver = (s.packetTaken runs h).receiver ∧ t.queue.entries = s.queue.entries
      ∧ t.queue.pointer = s.queue.pointer
      ∧ { t with
          receiver := s.receiver, tracker := s.tracker, plan := s.plan, scanners := s.scanners, channels := s.channels,
          allocations := s.allocations, attention := s.attention, queue := s.queue, port := s.port } = s

/-- A frame start in RUNNING adopts the pending plan when every channel is IDLE, and lays line memory out in view order; it is an
adoption gap when some channel is not; in every other case the plan in force and the pending plan stand. The first block of an allocation
of 0 blocks is the model's choice (log 25). -/
def Obligations.AdoptionAtFrameStart : Prop :=
  ∀ (s t : State) (runs : LaneRuns) (between : List NoticeStep) (h : BitVec 64) (payload : List Byte),
    s.completes runs h payload → headerKind h = some .frameStart → exec (.packetComplete ⟨runs, between⟩) s = .next t →
    (∀ p, s.run.state = .running → s.plan.candidate = some p → (∀ k : ViewId, (s.channel k).state = .idle) →
      t.plan.adopted = some p ∧ t.plan.candidate = none ∧ LaidOut p t.allocations
        ∧ t.plan.report =
          { s.plan.report with adoptedSequence := p.sequence, adoptionFrame := (headerNumber h).setWidth 32 }
        ∧ t.waitingFor .adoptionWord = true ∧ t.flagged .planAdopted = true)
    ∧ (∀ p, s.run.state = .running → s.plan.candidate = some p → (∃ k : ViewId, (s.channel k).state ≠ .idle) →
      t.plan.adopted = s.plan.adopted ∧ t.plan.candidate = some p ∧ t.allocations = s.allocations
        ∧ t.plan.report = { s.plan.report with deferrals := s.plan.report.deferrals + 1 }
        ∧ t.waitingFor .adoptionWord = true ∧ t.flagged .adoptionDeferred = true)
    ∧ (s.run.state ≠ .running ∨ s.plan.candidate = none →
      t.plan.adopted = s.plan.adopted ∧ t.plan.candidate = s.plan.candidate ∧ t.allocations = s.allocations
        ∧ t.plan.report = s.plan.report)

/-- A frame start, channel by channel, after the truncation of a frame in progress: an IDLE view that selects a matching frame in RUNNING
opens and queues its claim, which a FAULTED pool fails at once; a busy one is SKIPPED with BUSY; a mismatch or an adoption gap skips, and
the mismatch is raised whether or not a view selects the frame; nothing is offered outside RUNNING; a copy due from the bank reused is
cancelled; a CLAIMING channel is overtaken with LATE_BUFFER, and counts its skip as well. That a new view frame's end timestamp and copy
length are 0 is the model's choice (log 27). -/
def Obligations.ViewsAtFrameStart : Prop :=
  ∀ (s t : State) (runs : LaneRuns) (between : List NoticeStep) (h : BitVec 64) (payload : List Byte),
    s.completes runs h payload → headerKind h = some .frameStart → exec (.packetComplete ⟨runs, between⟩) s = .next t →
    let n := headerNumber h
    let u := (s.packetTaken runs h).truncates .truncated
    ∀ p : Plan, t.plan.adopted = some p →
    let gap : Prop := s.run.state = .running ∧ s.plan.candidate.isSome = true ∧ ∃ j : ViewId, (s.channel j).state ≠ .idle
    let mismatch : Prop := p.width ≠ t.tracker.width ∨ p.height ≠ t.tracker.height ∨ p.depth ≠ t.tracker.depth
    (s.run.state = .running → ¬gap → mismatch → t.flagged .formatMismatch = true)
    ∧ (s.run.state ≠ .running ∨ gap ∨ ¬mismatch → t.flagged .formatMismatch = s.flagged .formatMismatch)
    ∧ ∀ k : ViewId,
      let selected : Prop := p.mask.getLsbD k.val = true ∧ n.toNat % p.views[k].every = p.views[k].phase
      let skipped (cause : OutcomeCause) : Prop :=
        (t.channel k).tally = (u.channel k).tally.count n .skipped cause
          ∧ ((u.channel k).state = .idle → (t.channel k).state = .idle ∧ t.waitingFor (.viewTally k) = true)
      (∀ z, s.run.state = .running → selected → ¬gap → ¬mismatch → (u.channel k).state = .idle → p.sizes[k] = some z →
        (s.scanner p.views[k].poolId).state = .ready →
        t.channel k =
            { u.channel k with
              state := .claiming
              frame :=
                some
                  { frameNumber := n, startTime := s.timebase, planSequence := p.sequence, bank := t.tracker.currentBank,
                    descriptor := p.views[k], sizes := z, period := p.period.toNat, depth := p.depth.toNat,
                    claimInFlight := true, slot := none, firstWrite := .notIssued, windowComplete := false,
                    abandoned := none, endTime := 0, copy := .notDue, copyLength := 0, metadataBytes := 0,
                    metaTruncated := false, metaLost := false, missingRows := 0, holeRows := 0, saturated := 0,
                    rowsWritten := 0, group := 0,
                    accumulator := List.replicate p.period.toNat (List.replicate z.outWidth 0),
                    present := List.replicate p.period.toNat 0, staging := [], closing := false } }
          ∧ { view := k, needed := z.neededBytes, tag := n } ∈ (t.scanner p.views[k].poolId).queue)
      ∧ (∀ z, s.run.state = .running → selected → ¬gap → ¬mismatch → (u.channel k).state = .idle → p.sizes[k] = some z →
        (s.scanner p.views[k].poolId).state = .faulted →
        (t.channel k).state = .returning ∧ (t.channel k).tally = (u.channel k).tally.count n .skipped .poolFault
          ∧ t.waitingFor (.viewTally k) = true ∧ t.flagged .frameSkipped = true)
      ∧ (s.run.state = .running → selected → ¬gap → ¬mismatch → (u.channel k).state ≠ .idle → skipped .busy)
      ∧ (s.run.state = .running → selected → ¬gap → mismatch → skipped .formatMismatch)
      ∧ (s.run.state = .running → selected → gap → skipped .adopting)
      ∧ (s.run.state ≠ .running ∨ ¬selected → (t.channel k).tally = (u.channel k).tally
          ∧ ((u.channel k).state = .idle → (u.channel k).frame = none → t.channel k = u.channel k))
      ∧ (∀ v, (u.channel k).state ≠ .idle → (u.channel k).frame = some v →
          let cancelled : Prop := v.bank = t.tracker.currentBank ∧ (v.copy = .due ∨ v.copy = .waiting)
          let w : ViewFrame := if cancelled then { v with copy := .notDue, metaLost := true } else v
          (cancelled → t.waitingFor (.metadataCopy k) = false)
          ∧ ((u.channel k).state ≠ .claiming → (t.channel k).state = (u.channel k).state ∧ (t.channel k).frame = some w)
          ∧ ((u.channel k).state = .claiming → v.abandoned = none →
            (t.channel k).state = .returning ∧ (t.channel k).frame = some (leftBehind w .lateBuffer s.timebase)))

/-- The gap deadline reached in frame truncates the frame with GAP_TIMEOUT, at the deadline (the command moves the timebase there,
log 5); out of frame the event has no effect, and with no deadline none, which is the model's choice (log 3). -/
def Obligations.GapDeadlineTruncates : Prop :=
  (∀ (s : State) (d : DWord), s.tracker.state ≠ .idle → s.tracker.deadline = some d →
      exec .gapTimeout s = .next (State.truncates .gapTimeout { s with timebase := d })
        ∧ ∃ t, exec .gapTimeout s = .next t
          ∧ t.tracker =
            { s.tracker with
              state := .idle
              deadline := none
              framesTruncated := s.tracker.framesTruncated + 1
              gapTimeouts := s.tracker.gapTimeouts + 1 }
          ∧ t.waitingFor .linkTally = true
          ∧ (∀ k : ViewId, (s.channel k).state ≠ .claiming → (s.channel k).state ≠ .active → t.channel k = s.channel k)
          ∧ (∀ (k : ViewId) (v : ViewFrame), (s.channel k).state = .claiming → (s.channel k).frame = some v →
            v.windowComplete = false → v.abandoned = none →
            ∃ w, t.channel k = { s.channel k with state := .returning, frame := some w }
              ∧ w.abandoned = some .gapTimeout ∧ w.endTime = d)
          ∧ t.queue.entries = s.queue.entries ∧ t.queue.pointer = s.queue.pointer
          ∧ { t with
              tracker := s.tracker, plan := s.plan, channels := s.channels, queue := s.queue, port := s.port,
              timebase := s.timebase } = s)
    ∧ ∀ s : State, s.tracker.state = .idle ∨ s.tracker.deadline = none → exec .gapTimeout s = .next s

/-! ### Starting a run -/

/-- The link word and the pool table judged at START, each followed by the next read or by the report of a failure. -/
def Obligations.StartReadsChecked : Prop :=
  (∀ (s : State) (tag : Nat) (data : Word), s.run.state = .starting → s.awaits tag .linkWord →
      let t := s.dropPort tag
      (data = 1 ∨ data = 2 ∨ data = 4 →
        exec (.linkWordAnswer tag (.ok data)) s = .next
          { t with
            run := { s.run with lanesRead := data.toNat, progress := .poolTable }
            port := t.issued .poolTable (.read (s.run.anchor + 0x040) 64) })
      ∧ (¬(data = 1 ∨ data = 2 ∨ data = 4) →
        exec (.linkWordAnswer tag (.ok data)) s = .next (startFailed t 0 .badLinkWord 0xFF)))
    ∧ ∀ (s : State) (tag : Nat) (data : BitVec 512), s.run.state = .starting → s.awaits tag .poolTable →
      let t := s.dropPort tag
      let address (k : Nat) : DWord := data.extractLsb' (128 * k) 64
      let count (k : Nat) : Nat := (data.extractLsb' (128 * k + 64) 32).toNat
      let good : Prop := ∀ k, k < 4 →
        count k = 0 ∨ count k ≤ 64 ∧ (address k).toNat % 16 = 0
          ∧ ((address k).toNat + 16 * count k ≤ s.run.anchor.toNat ∨ s.run.anchor.toNat + 4096 ≤ (address k).toNat)
      let pool (k : Nat) : Option PoolDefinition :=
        if count k = 0 then none else some { address := address k, count := count k }
      (good →
        exec (.poolTableAnswer tag (.ok data)) s = .next
          { t with
            run := { s.run with pools := #v[pool 0, pool 1, pool 2, pool 3], progress := .plan }
            plan := { s.plan with fetch := .selector, selector := none, discard := false }
            port := t.issued .startSelector (.read s.run.anchor 8) })
      ∧ (¬good → exec (.poolTableAnswer tag (.ok data)) s = .next (startFailed t 0 .badPoolTable 0xFF))

/-- The plan reads of START: a page index of 0 or 1 is read, a valid first plan is adopted at once with adoption frame FFFFFFFFH and line
memory laid out for it (log 25), and anything else is reported as a failure. -/
def Obligations.StartPlanReads : Prop :=
  (∀ (s : State) (tag : Nat) (data : BitVec 64), s.run.state = .starting → s.plan.discard = false →
      s.awaits tag .startSelector →
      let t := s.dropPort tag
      let x : Selector := { sequence := data.extractLsb' 0 32, page := data.extractLsb' 32 32 }
      (x.page = 0 ∨ x.page = 1 →
        exec (.startSelectorAnswer tag (.ok data)) s = .next
          { t with
            plan := { s.plan with fetch := .page, selector := some x }
            port := t.issued .startPage (.read (s.run.anchor + (if x.page = 0 then 0x400 else 0x800)) 1024) })
      ∧ (¬(x.page = 0 ∨ x.page = 1) →
        exec (.startSelectorAnswer tag (.ok data)) s = .next (startFailed t x.sequence .badHeader 0xFF)))
    ∧ ∀ (s : State) (tag : Nat) (answer : ReadAnswer 8192) (x : Selector), s.run.state = .starting →
      s.plan.discard = false → s.plan.selector = some x → s.awaits tag .startPage →
      let t := s.dropPort tag
      (∀ p, judge s.run.pools x.sequence answer = .valid p →
        ∃ a, LaidOut p a ∧ exec (.startPageAnswer tag answer) s = .next
          { t with
            run := { s.run with progress := .adopted }
            plan :=
              { adopted := some p
                candidate := none
                fetch := .quiet
                selector := none
                discard := false
                remembered := if s.plan.remembered = some p.sequence then none else s.plan.remembered
                report := { s.plan.report with adoptedSequence := p.sequence, adoptionFrame := 0xFFFFFFFF } }
            allocations := a
            queue := t.joined .adoptionWord
            attention := { s.attention with flags := s.attention.flags ||| 0x0040 } })
      ∧ ∀ reason view, judge s.run.pools x.sequence answer = .rejected reason view →
        exec (.startPageAnswer tag answer) s = .next (startFailed t x.sequence reason view)

/-- The judgement of a plan by the five steps of R19, with the accepted values of Tables 1-2 and 1-3 and the record of a valid plan; and the
fields of a view descriptor by their bytes (Table 11-7). -/
def Obligations.PlanJudged : Prop :=
  (∀ d : Descriptor,
      let u8 (offset : Nat) : Nat := (d.raw.extractLsb' (8 * offset) 8).toNat
      let u16 (offset : Nat) : Nat := (d.raw.extractLsb' (8 * offset) 16).toNat
      d.rowStart = u16 0x00 ∧ d.rowCount = u16 0x02 ∧ d.columnStart = u16 0x04 ∧ d.columnCount = u16 0x06
        ∧ d.cellsV = u8 0x08 ∧ d.cellsH = u8 0x09 ∧ d.blackOffset = u16 0x0A ∧ d.gain = u16 0x0C ∧ d.outDepth = u8 0x0E
        ∧ d.pool = u8 0x0F ∧ d.policy = u8 0x10 ∧ d.notify = u8 0x11 ∧ d.every = u8 0x12 ∧ d.phase = u8 0x13
        ∧ d.metadataLimit = u16 0x14 ∧ (∀ j, j < 16 → d.weightV j = u8 (0x20 + j) ∧ d.weightH j = u8 (0x30 + j))
        ∧ (d.pool ≤ 3 → d.poolId.val = d.pool))
  ∧ (∀ (n : Nat) (x : BitVec n) (offset bytes : Nat), fieldAt x offset bytes = (x.extractLsb' (8 * offset) (8 * bytes)).toNat)
  ∧ ∀ (pools : Vector (Option PoolDefinition) 4) (sequence : Word),
    judge pools sequence .error = .rejected .readError 0xFF
    ∧ ∀ page : BitVec 8192,
      let whole : Prop := page.extractLsb' 0 32 = sequence ∧ page.extractLsb' (8 * 0x3FC) 32 = sequence
      let width := fieldAt page 0x06 2
      let height := fieldAt page 0x08 2
      let depth := fieldAt page 0x0A 1
      let P := fieldAt page 0x0B 1
      let header : Prop :=
        16 ≤ width ∧ width ≤ 8192 ∧ width % 4 = 0 ∧ 1 ≤ height ∧ height ≤ 8192 ∧ (P = 2 → height % 2 = 0)
          ∧ (depth = 10 ∨ depth = 12 ∨ depth = 14) ∧ (P = 1 ∨ P = 2) ∧ fieldAt page 0x0C 4 ≤ 1000000
      let enabled (k : ViewId) : Prop := page.getLsbD (32 + k.val) = true
      let view (k : ViewId) : Descriptor := { raw := page.extractLsb' (8 * (0x40 + 64 * k.val)) 512 }
      let inRange (d : Descriptor) : Prop :=
        (d.rowStart % P = 0 ∧ d.columnStart % P = 0 ∧ 0 < d.rowCount ∧ 0 < d.columnCount
          ∧ d.rowCount % (P * d.cellsV) = 0 ∧ d.columnCount % (P * d.cellsH) = 0
          ∧ d.rowStart + d.rowCount ≤ height ∧ d.columnStart + d.columnCount ≤ width)
        ∧ (1 ≤ d.cellsV ∧ d.cellsV ≤ 16 ∧ 1 ≤ d.cellsH ∧ d.cellsH ≤ 16
          ∧ (∀ j, j < d.cellsV → d.weightV j ≤ 15) ∧ (∀ j, j < d.cellsH → d.weightH j ≤ 15)
          ∧ 1 ≤ ((List.range d.cellsV).map d.weightV).sum ∧ 1 ≤ ((List.range d.cellsH).map d.weightH).sum)
        ∧ (d.blackOffset ≤ 16383 ∧ d.blackOffset < 2 ^ depth ∧ d.gain ≤ 4095
          ∧ (d.outDepth = 8 ∨ d.outDepth = 10 ∨ d.outDepth = 12 ∨ d.outDepth = 16))
        ∧ (d.policy ≤ 1 ∧ d.notify ≤ 1 ∧ 1 ≤ d.every ∧ d.phase < d.every ∧ d.metadataLimit ≤ 4096) ∧ d.pool ≤ 3
      let present (d : Descriptor) : Prop := (pools[d.poolId]).isSome = true
      let passes (k : ViewId) : Prop := enabled k → inRange (view k) ∧ present (view k)
      let blocks (k : ViewId) : Nat :=
        let z := derivedSizes P (view k)
        if page.getLsbD (32 + k.val) then
          (P * z.outWidth * 4 + 255) / 256 + (2 * P * z.outWidth * z.pixelBytes + 255) / 256
        else 0
      let total : Nat := blocks 0 + blocks 1 + blocks 2 + blocks 3 + blocks 4 + blocks 5 + blocks 6 + blocks 7
      let result := judge pools sequence (.ok page)
      (¬whole → result = .rejected .tornPage 0xFF)
      ∧ (whole → ¬header → result = .rejected .badHeader 0xFF)
      ∧ (whole → header → ∀ k : ViewId, (∀ j : ViewId, j < k → passes j) → enabled k →
          (¬inRange (view k) → result = .rejected .badView (BitVec.ofNat 8 k.val))
          ∧ (inRange (view k) → ¬present (view k) → result = .rejected .badPool (BitVec.ofNat 8 k.val)))
      ∧ (whole → header → (∀ k, passes k) → 512 < total → result = .rejected .lineMemory 0xFF)
      ∧ (whole → header → (∀ k, passes k) → total ≤ 512 →
          ∃ p, result = .valid p ∧ p.sequence = sequence ∧ p.mask = page.extractLsb' (8 * 0x04) 8
            ∧ p.width.toNat = width ∧ p.height.toNat = height ∧ p.depth.toNat = depth ∧ p.period.toNat = P
            ∧ p.gapLimit.toNat = fieldAt page 0x0C 4
            ∧ ∀ k : ViewId, p.views[k] = view k
              ∧ (enabled k → p.sizes[k] = some (derivedSizes P (view k))) ∧ (¬enabled k → p.sizes[k] = none))

/-- The derived sizes of a view that passes its checks, and their bounds (R16); the needed bytes and row offsets (R17); and the line blocks
of its accumulator and of its staging, each rounded up to whole blocks of 256 bytes (R18). -/
def Obligations.SizesDerived : Prop :=
  ∀ (P width height : Nat) (d : Descriptor), P = 1 ∨ P = 2 → width ≤ 8192 → height ≤ 8192 →
    windowOk P width height d = true → weightsOk d = true →
    d.outDepth = 8 ∨ d.outDepth = 10 ∨ d.outDepth = 12 ∨ d.outDepth = 16 → d.metadataLimit ≤ 4096 →
    let z := derivedSizes P d
    z.outWidth = d.columnCount / (P * d.cellsH) * P ∧ z.outWidth * d.cellsH = d.columnCount
      ∧ z.outHeight = d.rowCount / (P * d.cellsV) * P ∧ z.outHeight * d.cellsV = d.rowCount
      ∧ (d.outDepth = 8 → z.pixelBytes = 1) ∧ (d.outDepth ≠ 8 → z.pixelBytes = 2)
      ∧ z.rowBytes = z.outWidth * z.pixelBytes
      ∧ z.stride % 64 = 0 ∧ z.rowBytes ≤ z.stride ∧ z.stride < z.rowBytes + 64
      ∧ 1 ≤ z.outWidth ∧ z.outWidth ≤ 8192 ∧ 1 ≤ z.outHeight ∧ z.outHeight ≤ 8192 ∧ 64 ≤ z.stride ∧ z.stride ≤ 16384
      ∧ z.metadataArea % 64 = 0 ∧ d.metadataLimit ≤ z.metadataArea ∧ z.metadataArea < d.metadataLimit + 64
      ∧ (d.metadataLimit = 0 → z.metadataArea = 0)
      ∧ z.neededBytes = 256 + z.metadataArea + z.outHeight * z.stride
      ∧ (∀ k, z.rowOffset k = 256 + z.metadataArea + k * z.stride) ∧ z.rowOffset z.outHeight = z.neededBytes
      ∧ z.neededBytes ≤ 134222080 ∧ z.neededBytes < 2 ^ 32
      ∧ z.accumulatorBlocks = (P * z.outWidth * 4 + 255) / 256
      ∧ z.stagingBlocks = (2 * P * z.outWidth * z.pixelBytes + 255) / 256
      ∧ z.lineBlocks = z.accumulatorBlocks + z.stagingBlocks

/-- The response to an adoption word write: it ends the START sequence in RUNNING or STOPPED, and nothing else of the part changes at
any other; an OK response to a link tally write changes nothing else. -/
def Obligations.BookkeepingEnds : Prop :=
  (∀ (s : State) (tag : Nat), s.run.state = .starting → s.awaitsWrite tag .adoptionWord →
      let t := s.dropWrite tag
      (s.run.progress = .adopted →
        exec (.adoptionWordResponse tag .ok) s = .next
          { t with
            run := { s.run with state := .running, result := .started, progress := .none }
            scanners :=
              s.run.pools.map fun d => { definition := d, cursor := 0, state := .ready, queue := [], service := none }
            receiver := { huntFrom s.receiver with lanes := s.run.lanesRead }
            queue := { t.queue with pointer := 0 } })
      ∧ (s.run.progress = .failed →
        exec (.adoptionWordResponse tag .ok) s = .next
          { t with run := { s.run with state := .stopped, result := .startFailed, progress := .none } }))
    ∧ (∀ (s : State) (tag : Nat), s.live → s.run.state ≠ .starting → s.awaitsWrite tag .adoptionWord →
        exec (.adoptionWordResponse tag .ok) s = .next (s.dropWrite tag))
    ∧ ∀ (s : State) (tag : Nat), s.live → s.awaitsWrite tag .linkTally →
        exec (.linkTallyResponse tag .ok) s = .next (s.dropWrite tag)

/-! ### Fetching during a run -/

/-- The selector answer of a running fetch, by the first matching case of Table 3-3, and with the discard mark. -/
def Obligations.RunningSelectorJudged : Prop :=
  (∀ (s : State) (tag : Nat) (answer : ReadAnswer 64), s.live → s.plan.discard = true → s.awaits tag .selector →
      exec (.selectorAnswer tag answer) s = .next { s.dropPort tag with plan := s.plan.ended })
    ∧ (∀ (s : State) (tag : Nat), s.live → s.plan.discard = false → s.awaits tag .selector →
        let t := s.dropPort tag
        exec (.selectorAnswer tag .error) s = .next
          { t with
            plan :=
              { s.plan.ended with
                report :=
                  { s.plan.report with
                    rejectedSequence := 0, reason := .readError, rejectedView := 0xFF,
                    transients := s.plan.report.transients + 1 } }
            queue := t.joined .adoptionWord
            attention := { s.attention with flags := s.attention.flags ||| 0x0080 } })
    ∧ ∀ (s : State) (tag : Nat) (data : BitVec 64), s.live → s.plan.discard = false → s.awaits tag .selector →
      let t := s.dropPort tag
      let x : Selector := { sequence := data.extractLsb' 0 32, page := data.extractLsb' 32 32 }
      let adopted : Prop := ∃ p, s.plan.adopted = some p ∧ p.sequence = x.sequence
      let pending : Prop := ∃ p, s.plan.candidate = some p ∧ p.sequence = x.sequence
      let remembered : Prop := s.plan.remembered = some x.sequence
      let names : Prop := x.page = 0 ∨ x.page = 1
      let result := exec (.selectorAnswer tag (.ok data)) s
      (adopted ∨ ¬pending ∧ remembered →
        (s.plan.candidate = none → result = .next { t with plan := s.plan.ended })
        ∧ (s.plan.candidate ≠ none →
          result = .next { t with plan := s.plan.ended.without, queue := t.joined .adoptionWord }))
      ∧ (¬adopted → pending → result = .next { t with plan := s.plan.ended })
      ∧ (¬adopted → ¬pending → ¬remembered → ¬names →
        result = .next
          { t with
            plan :=
              { s.plan.ended.without with
                remembered := some x.sequence
                report :=
                  { s.plan.ended.without.report with
                    rejectedSequence := x.sequence, reason := .badHeader, rejectedView := 0xFF } }
            queue := t.joined .adoptionWord
            attention := { s.attention with flags := s.attention.flags ||| 0x0080 } })
      ∧ (¬adopted → ¬pending → ¬remembered → names →
        result = .next
          { t with
            plan := { s.plan with fetch := .page, selector := some x }
            port := t.issued .page (.read (s.run.anchor + (if x.page = 0 then 0x400 else 0x800)) 1024) })

/-- The page answer of a running fetch: discarded with the mark; a valid plan becomes pending; a transient rejection keeps the pending
plan; a definitive one discards it and is remembered. -/
def Obligations.RunningPageJudged : Prop :=
  (∀ (s : State) (tag : Nat) (answer : ReadAnswer 8192), s.live → s.plan.discard = true → s.awaits tag .page →
      exec (.pageAnswer tag answer) s = .next { s.dropPort tag with plan := s.plan.ended })
    ∧ ∀ (s : State) (tag : Nat) (answer : ReadAnswer 8192) (x : Selector), s.live → s.plan.discard = false →
      s.plan.selector = some x → s.awaits tag .page →
      let t := s.dropPort tag
      (∀ p, judge s.run.pools x.sequence answer = .valid p →
        exec (.pageAnswer tag answer) s = .next
          { t with
            plan := { s.plan.ended.without with candidate := some p }
            queue := if s.plan.candidate = none then s.queue else t.joined .adoptionWord })
      ∧ ∀ reason view, judge s.run.pools x.sequence answer = .rejected reason view →
        (reason = .readError ∨ reason = .tornPage →
          exec (.pageAnswer tag answer) s = .next
            { t with
              plan :=
                { s.plan.ended with
                  report :=
                    { s.plan.report with
                      rejectedSequence := x.sequence, reason := reason, rejectedView := view,
                      transients := s.plan.report.transients + 1 } }
              queue := t.joined .adoptionWord
              attention := { s.attention with flags := s.attention.flags ||| 0x0080 } })
        ∧ (¬(reason = .readError ∨ reason = .tornPage) →
          exec (.pageAnswer tag answer) s = .next
            { t with
              plan :=
                { s.plan.ended.without with
                  remembered := some x.sequence
                  report :=
                    { s.plan.ended.without.report with
                      rejectedSequence := x.sequence, reason := reason, rejectedView := view } }
              queue := t.joined .adoptionWord
              attention := { s.attention with flags := s.attention.flags ||| 0x0080 } })

/-! ### Fault, and answers that reach no block -/

/-- R170: the answers that send the run to FAULT, what every block is then, the errors that do not, and what an answer changes in
FAULT. -/
def Obligations.FaultEntered : Prop :=
  (∀ (s : State) (tag : Nat), s.run.state = .starting →
      (s.awaits tag .linkWord → exec (.linkWordAnswer tag .error) s = .next (faultedFrom (s.dropPort tag)))
      ∧ (s.awaits tag .poolTable → exec (.poolTableAnswer tag .error) s = .next (faultedFrom (s.dropPort tag)))
      ∧ (s.awaits tag .startSelector → s.plan.discard = false →
        exec (.startSelectorAnswer tag .error) s = .next (faultedFrom (s.dropPort tag))))
    ∧ (∀ (s : State) (tag : Nat) (k : ViewId), s.live →
      (s.awaits tag (.firstWrite k) → exec (.firstWriteAnswer tag .error) s = .next (faultedFrom (s.dropPort tag)))
      ∧ (s.awaits tag (.giveBack k) → exec (.returnAnswer tag .error) s = .next (faultedFrom (s.dropPort tag)))
      ∧ (s.awaits tag (.sealing k) → exec (.sealingAnswer tag .error) s = .next (faultedFrom (s.dropPort tag)))
      ∧ (s.awaitsWrite tag (.frameRecord k) →
        exec (.frameRecordResponse tag .error) s = .next (faultedFrom (s.dropWrite tag)))
      ∧ (∀ closing, s.awaitsWrite tag (.viewTally k closing) →
        exec (.viewTallyResponse tag .error) s = .next (faultedFrom (s.dropWrite tag)))
      ∧ (s.awaitsWrite tag .linkTally → exec (.linkTallyResponse tag .error) s = .next (faultedFrom (s.dropWrite tag)))
      ∧ (s.awaitsWrite tag .adoptionWord →
        exec (.adoptionWordResponse tag .error) s = .next (faultedFrom (s.dropWrite tag))))
    ∧ (∀ (s t : State) (c : Instr) (tag : Nat), s.live →
      c = .selectorAnswer tag .error ∨ c = .pageAnswer tag .error ∨ c = .startPageAnswer tag .error
        ∨ c = .slotReadAnswer tag .error ∨ c = .claimAnswer tag .error ∨ c = .refusalAnswer tag .error
        ∨ c = .rowWriteResponse tag .error ∨ c = .metadataCopyResponse tag .error →
      exec c s = .next t → t.run.state = s.run.state ∧ t.flagged .fault = s.flagged .fault)
    ∧ ∀ (s t : State) (c : Instr) (tag : Nat), s.run.state = .fault →
      (∃ r, answersTo c r = some tag) ∨ (∃ r, respondsTo c r = some tag) → exec c s = .next t →
      t = s ∨ t = s.dropPort tag ∨ t = s.dropWrite tag

/-- An answer to no outstanding transaction of its kind changes nothing (log 2); one that arrives in STOPPED or FAULT only counts its
transaction off; and nothing is issued in STOPPED or FAULT, but by an accepted START. -/
def Obligations.AnswersDiscarded : Prop :=
  (∀ (s : State) (c : Instr) (tag : Nat), (∃ r, answersTo c r = some tag) →
      (∀ r, answersTo c r = some tag → ¬s.awaits tag r) → exec c s = .next s)
    ∧ (∀ (s : State) (c : Instr) (tag : Nat), (∃ r, respondsTo c r = some tag) →
      (∀ r, respondsTo c r = some tag → ¬s.awaitsWrite tag r) → exec c s = .next s)
    ∧ (∀ (s : State) (c : Instr) (tag : Nat) (r : PortRole), s.run.state = .stopped ∨ s.run.state = .fault →
      answersTo c r = some tag → s.awaits tag r → exec c s = .next (s.dropPort tag))
    ∧ (∀ (s : State) (c : Instr) (tag : Nat) (r : WriteRole), s.run.state = .stopped ∨ s.run.state = .fault →
      respondsTo c r = some tag → s.awaitsWrite tag r → exec c s = .next (s.dropWrite tag))
    ∧ ∀ (s t : State) (c : Instr), s.run.state = .stopped ∨ s.run.state = .fault → c.wellFormed = true → c ≠ .start →
      exec c s = .next t →
      (∀ e ∈ t.port.entries, e ∈ s.port.entries) ∧ (∀ e ∈ t.queue.entries, e ∈ s.queue.entries)
        ∧ t.port.nextTag = s.port.nextTag

/-! ### Claims -/

/-- The slot words the part writes and the slot states it reads. -/
def Obligations.SlotWordsBuilt : Prop :=
  (∀ (state : SlotState) (view : ViewId) (tag : Half),
      let word := freshSlotWord state view tag
      word.extractLsb' 0 8 = state.code ∧ (word.extractLsb' 8 4).toNat = view.val ∧ word.extractLsb' 12 4 = 0
        ∧ word.extractLsb' 16 16 = tag)
    ∧ (∀ (word : Word) (state : SlotState),
        (withSlotState word state).extractLsb' 0 8 = state.code
          ∧ (withSlotState word state).extractLsb' 8 24 = word.extractLsb' 8 24)
    ∧ [SlotState.held, .offered, .taken, .filling, .filled, .torn, .refused].map SlotState.code =
        [0x00, 0x01, 0x02, 0x03, 0x04, 0x05, 0x06]
    ∧ ∀ word : Word,
        ((word.extractLsb' 0 8).toNat = 1 ↔ slotState word = .offered)
        ∧ ((word.extractLsb' 0 8).toNat = 2 ↔ slotState word = .taken)
        ∧ ((word.extractLsb' 0 8).toNat = 3 ↔ slotState word = .filling)
        ∧ ((word.extractLsb' 0 8).toNat = 4 ↔ slotState word = .filled)
        ∧ ((word.extractLsb' 0 8).toNat = 5 ↔ slotState word = .torn)
        ∧ ((word.extractLsb' 0 8).toNat = 6 ↔ slotState word = .refused)
        ∧ ((word.extractLsb' 0 8).toNat = 0 ∨ 6 < (word.extractLsb' 0 8).toNat ↔ slotState word = .held)

/-- A waiting scanner of a READY pool takes its oldest request and reads the slot at its cursor; a scanner that cannot begin a claim
does nothing, which is the model's choice (log 3). An OFFERED slot read is claimed if it fits the request and refused if it does not. -/
def Obligations.ScannerVisitsSlots : Prop :=
  (∀ (s : State) (p : PoolId) (d : PoolDefinition) (r : ClaimRequest) (rest : List ClaimRequest),
      let x := s.scanner p
      s.run.state = .running ∨ s.run.state = .stopping ∨ s.run.state = .aborting → x.state = .ready → x.service = none →
      x.queue = r :: rest → x.definition = some d →
      exec (.claimServiceStart p) s = .next
        { s with
          scanners :=
            s.scanners.set p
              { x with queue := rest, service := some { request := r, index := x.cursor, visited := 0, slot := none } }
          port := s.issued (.slotRead p) (.read (d.address + BitVec.ofNat 64 (16 * x.cursor)) 16) })
    ∧ (∀ (s : State) (p : PoolId),
      let x := s.scanner p
      ¬(s.run.state = .running ∨ s.run.state = .stopping ∨ s.run.state = .aborting) ∨ x.state = .faulted
        ∨ x.service ≠ none ∨ x.queue = [] ∨ x.definition = none →
      exec (.claimServiceStart p) s = .next s)
    ∧ ∀ (s : State) (tag : Nat) (p : PoolId) (d : PoolDefinition) (v : ClaimService) (r : BitVec 128), s.live →
      (s.scanner p).definition = some d → (s.scanner p).service = some v → s.awaits tag (.slotRead p) →
      r.extractLsb' 0 8 = 0x01 →
      let t := s.dropPort tag
      let fits : Prop := v.request.needed ≤ (r.extractLsb' 32 32).toNat ∧ (r.extractLsb' 64 64).toNat % 64 = 0
      let scanners := s.scanners.set p { s.scanner p with service := some { v with slot := some r } }
      let place : DWord := d.address + BitVec.ofNat 64 (16 * v.index)
      (fits →
        exec (.slotReadAnswer tag (.ok r)) s = .next
          { t with
            scanners := scanners
            port :=
              t.issued (.claim p)
                (.compareExchange place (r.extractLsb' 0 32) (claimWord 0x02 v.request.view v.request.tag)) })
      ∧ (¬fits →
        exec (.slotReadAnswer tag (.ok r)) s = .next
          { t with
            scanners := scanners
            port :=
              t.issued (.refusal p)
                (.compareExchange place (r.extractLsb' 0 32) (claimWord 0x06 v.request.view v.request.tag)) })

/-- A slot is passed when its record reads not OFFERED, when its claim is not exchanged, and whatever the answer to its refusal;
SLOT_REFUSED is raised when the refusal is exchanged. That the scanner waits after a round that found nothing, with its queue as it was
and the next claim left to its own command, is the model's reading (log 13). -/
def Obligations.SlotsPassed : Prop :=
  ∀ (s : State) (tag : Nat) (p : PoolId) (d : PoolDefinition) (v : ClaimService), s.live →
    (s.scanner p).definition = some d → (s.scanner p).service = some v →
    let u := s.dropPort tag
    (∀ r : BitVec 128, s.awaits tag (.slotRead p) → r.extractLsb' 0 8 ≠ 0x01 →
      ∃ t, exec (.slotReadAnswer tag (.ok r)) s = .next t ∧ PassesSlot p d v u t)
    ∧ (s.awaits tag (.claim p) → ∃ t, exec (.claimAnswer tag .notExchanged) s = .next t ∧ PassesSlot p d v u t)
    ∧ (s.awaits tag (.refusal p) →
      (∃ t, exec (.refusalAnswer tag .notExchanged) s = .next t ∧ PassesSlot p d v u t)
      ∧ ∃ t, exec (.refusalAnswer tag .exchanged) s = .next t
        ∧ PassesSlot p d v { u with attention := { s.attention with flags := s.attention.flags ||| 0x0008 } } t)

/-- A claim exchanged: the cursor moves past the slot, the scanner waits again, and the channel holds the slot: CLAIMING it becomes
ACTIVE, and issues its first write at once if it has work; RETURNING it gives the slot back. That the next claim
waits for its own command is the model's reading (log 13). -/
def Obligations.ClaimWon : Prop :=
  ∀ (s : State) (tag : Nat) (p : PoolId) (d : PoolDefinition) (v : ClaimService) (r : BitVec 128) (f : ViewFrame), s.live →
    (s.scanner p).definition = some d → (s.scanner p).service = some v → v.slot = some r → s.awaits tag (.claim p) →
    let k := v.request.view
    (s.channel k).frame = some f → f.claimInFlight = true → f.firstWrite = .notIssued →
    let word := claimWord 0x02 k v.request.tag
    let held : ViewFrame :=
      { f with
        claimInFlight := false
        slot :=
          some
            { pool := p, index := v.index, address := r.extractLsb' 64 64, capacity := r.extractLsb' 32 32, word := word } }
    let t : State :=
      { s.dropPort tag with
        scanners :=
          s.scanners.set p
            { s.scanner p with cursor := if v.index + 1 < d.count then v.index + 1 else 0, service := none } }
    let place : DWord := d.address + BitVec.ofNat 64 (16 * v.index)
    let work : Prop := f.copy = .due ∨ f.staging ≠ []
    ((s.channel k).state = .claiming → ¬work →
      exec (.claimAnswer tag .exchanged) s = .next
        { t with channels := s.channels.set k { s.channel k with state := .active, frame := some held } })
    ∧ ((s.channel k).state = .claiming → work →
      exec (.claimAnswer tag .exchanged) s = .next
        { t with
          channels :=
            s.channels.set k
              { s.channel k with
                state := if f.windowComplete then .flushing else .active
                frame := some { held with firstWrite := .outstanding } }
          port := t.issued (.firstWrite k) (.compareExchange place word (recoded word 0x03)) })
    ∧ ((s.channel k).state = .returning →
      exec (.claimAnswer tag .exchanged) s = .next
        { t with
          channels := s.channels.set k { s.channel k with state := .returning, frame := some held }
          port := t.issued (.giveBack k) (.compareExchange place word (recoded word 0x01)) })

/-- An ERROR answer to a scanner: its pool is FAULTED, POOL_FAULT is raised, the claim in service and every queued claim fail with
POOL_FAULT, FRAME_SKIPPED is raised for a CLAIMING channel among them, the claimants' tallies join the bookkeeping requests, and nothing
else changes. That the tallies join in view id order is the model's reading (log 19). -/
def Obligations.PoolFaults : Prop :=
  ∀ (s : State) (c : Instr) (tag : Nat) (p : PoolId), s.live →
    (c = .slotReadAnswer tag .error ∧ s.awaits tag (.slotRead p)) ∨ (c = .claimAnswer tag .error ∧ s.awaits tag (.claim p))
      ∨ (c = .refusalAnswer tag .error ∧ s.awaits tag (.refusal p)) →
    let x := s.scanner p
    let claimant (k : ViewId) : Prop := (∃ v, x.service = some v ∧ v.request.view = k) ∨ ∃ r ∈ x.queue, r.view = k
    ∃ t, exec c s = .next t
      ∧ t.scanner p = { x with state := .faulted, queue := [], service := none }
      ∧ ((∃ k, claimant k ∧ s.skips k) →
          t.attention = { s.attention with flags := s.attention.flags ||| 0x0020 ||| 0x0004 })
      ∧ ((∀ k, claimant k → ¬s.skips k) → t.attention = { s.attention with flags := s.attention.flags ||| 0x0020 })
      ∧ (∀ k, claimant k → ClaimFails .poolFault k s t) ∧ (∀ k, ¬claimant k → t.channel k = s.channel k)
      ∧ (∀ q : PoolId, q ≠ p → t.scanner q = s.scanner q)
      ∧ (∃ asked : List ViewId, t.queue.requests = s.queue.requests ++ asked.map Request.viewTally
          ∧ asked.Pairwise (· < ·) ∧ ∀ k ∈ asked, claimant k)
      ∧ t.queue.entries = s.queue.entries ∧ t.queue.pointer = s.queue.pointer
      ∧ { t with
          scanners := s.scanners, channels := s.channels, queue := s.queue, port := s.port, attention := s.attention } = s
      ∧ t.port = (s.dropPort tag).port

/-! ### Channels -/

/-- The answer to a first write: exchanged, the slot is FILLING and a copy that is due is asked for; not exchanged, the view frame ends
LOST. -/
def Obligations.FirstWriteAnswered : Prop :=
  ∀ (s : State) (tag : Nat) (k : ViewId) (v : ViewFrame), s.live → s.awaits tag (.firstWrite k) →
    (s.channel k).frame = some v → v.firstWrite = .outstanding →
    let u := s.dropPort tag
    let filling : ViewFrame :=
      { v with firstWrite := .exchanged, slot := v.slot.map fun x => { x with word := recoded x.word 0x03 } }
    (v.copy = .due ∧ v.abandoned = none →
      exec (.firstWriteAnswer tag .exchanged) s = .next
        { u with
          channels := s.channels.set k { s.channel k with frame := some { filling with copy := .waiting } }
          queue := u.joined (.metadataCopy k) })
    ∧ (¬(v.copy = .due ∧ v.abandoned = none) →
      exec (.firstWriteAnswer tag .exchanged) s = .next
        { u with channels := s.channels.set k { s.channel k with frame := some filling } })
    ∧ ∃ t, exec (.firstWriteAnswer tag .notExchanged) s = .next t ∧ LosesSlot k .returning u t

/-- The answers to a return and to a sealing: exchanged, the view frame ends RETURNED, DELIVERED or TORN with its cause, and the tally
write is asked for; not exchanged, it ends LOST. A tally counts an outcome in the count of its class alone, modulo 2^32, and names it as
its last. -/
def Obligations.ReturnAndSealingAnswered : Prop :=
  (∀ (y : Tally) (n : Half) (cause : OutcomeCause),
    y.count n .delivered cause =
        { y with delivered := y.delivered + 1, lastFrame := n, lastClass := .delivered, lastCause := cause }
    ∧ y.count n .torn cause = { y with torn := y.torn + 1, lastFrame := n, lastClass := .torn, lastCause := cause }
    ∧ y.count n .returned cause =
        { y with returned := y.returned + 1, lastFrame := n, lastClass := .returned, lastCause := cause }
    ∧ y.count n .skipped cause =
        { y with skipped := y.skipped + 1, lastFrame := n, lastClass := .skipped, lastCause := cause }
    ∧ y.count n .lost cause = { y with lost := y.lost + 1, lastFrame := n, lastClass := .lost, lastCause := cause })
  ∧ ∀ (s : State) (tag : Nat) (k : ViewId) (v : ViewFrame), s.live → (s.channel k).frame = some v →
    let u := s.dropPort tag
    let closed : ViewFrame := { v with slot := none, accumulator := [], present := [], staging := [], closing := true }
    let counted (c : OutcomeClass) (cause : OutcomeCause) : Vector Channel 8 :=
      s.channels.set k
        { s.channel k with frame := some closed, tally := (s.channel k).tally.count v.frameNumber c cause }
    (s.awaits tag (.giveBack k) →
      (∀ cause, v.abandoned = some cause →
        exec (.returnAnswer tag .exchanged) s = .next
          { u with channels := counted .returned cause, queue := u.joined (.viewTally k) })
      ∧ ∃ t, exec (.returnAnswer tag .notExchanged) s = .next t ∧ LosesSlot k (s.channel k).state u t)
    ∧ (s.awaits tag (.sealing k) →
      (v.abandoned = none →
        exec (.sealingAnswer tag .exchanged) s = .next
          { u with
            channels := counted .delivered .complete
            queue := u.joined (.viewTally k)
            attention :=
              { s.attention with flags := s.attention.flags ||| (if v.descriptor.notify = 1 then 0x0001 else 0) } })
      ∧ (∀ cause, v.abandoned = some cause →
        exec (.sealingAnswer tag .exchanged) s = .next
          { u with
            channels := counted .torn cause
            queue := u.joined (.viewTally k)
            attention := { s.attention with flags := s.attention.flags ||| 0x0002 } })
      ∧ ∃ t, exec (.sealingAnswer tag .notExchanged) s = .next t ∧ LosesSlot k (s.channel k).state u t)

/-- A FLUSHING channel with nothing outstanding or waiting enters SEALING and asks for its frame record, which withdraws a waiting tally
of its own; the record answered OK issues the sealing; the closing tally answered OK lets the channel enter IDLE.
The entry to SEALING is a command of its own (log 14), and on a channel that is not ready it leaves the state (log 3): both are the
model's choice. -/
def Obligations.ChannelSealsAndCloses : Prop :=
  (∀ (s : State) (k : ViewId) (v : ViewFrame), (s.channel k).frame = some v →
      (s.sealReady k → (∀ bytes, Request.frameRecord k bytes ∉ s.queue.requests) →
        exec (.sealingEntry k) s = .next
          { s with
            channels := s.channels.set k { s.channel k with state := .sealing, frame := some v }
            queue :=
              { s.queue with
                requests :=
                  (s.queue.requests.filter fun q => q ≠ .viewTally k) ++ [.frameRecord k (frameRecordBytes k v)] } })
      ∧ (¬s.sealReady k → exec (.sealingEntry k) s = .next s))
    ∧ (∀ (s : State) (tag : Nat) (k : ViewId) (v : ViewFrame) (x : Slot) (d : PoolDefinition), s.live →
      s.awaitsWrite tag (.frameRecord k) → (s.channel k).frame = some v → (s.channel k).state = .sealing →
      v.slot = some x → (s.scanner x.pool).definition = some d →
      let t := s.dropWrite tag
      exec (.frameRecordResponse tag .ok) s = .next
        { t with
          port :=
            t.issued (.sealing k)
              (.compareExchange (d.address + BitVec.ofNat 64 (16 * x.index)) x.word
                (recoded x.word (if v.abandoned = none then 0x04 else 0x05))) })
    ∧ ∀ (s : State) (tag : Nat) (k : ViewId), s.live →
      (s.awaitsWrite tag (.viewTally k true) →
        exec (.viewTallyResponse tag .ok) s = .next
          { s.dropWrite tag with channels := s.channels.set k { s.channel k with state := .idle, frame := none } })
      ∧ (s.awaitsWrite tag (.viewTally k false) →
        exec (.viewTallyResponse tag .ok) s = .next (s.dropWrite tag))

/-! ### The write queue -/

/-- An admission: nothing without a free entry; the oldest bookkeeping request first, each kind to its place; a row transaction of the
first eligible channel from the pointer only when no request waits. -/
def Obligations.AdmissionOrder : Prop :=
  (∀ s : State, ¬s.live ∨ 32 ≤ s.queue.entries.length → exec .admission s = .next s)
    ∧ (∀ s : State, s.queue.requests = [] → (∀ k, ¬s.rowReady k) → exec .admission s = .next s)
    ∧ (∀ (s : State) (r : Request) (rest : List Request), s.live → s.queue.entries.length < 32 →
        s.queue.requests = r :: rest →
        let u : State := { s with queue := { s.queue with requests := rest } }
        let after (role : WriteRole) (address : DWord) (data : List Byte) : State :=
          { u with queue := u.written role address data, port := { s.port with nextTag := s.port.nextTag + 1 } }
        (r = .linkTally →
          exec .admission s = .next
            (after .linkTally (s.run.anchor + 0x100) (linkTallyBytes s.tracker s.receiver)))
        ∧ (r = .adoptionWord →
          exec .admission s = .next (after .adoptionWord (s.run.anchor + 0x080) (adoptionWordBytes s.plan.report)))
        ∧ (∀ k, r = .viewTally k →
          exec .admission s = .next
            (after (.viewTally k (s.channel k).isClosing) (s.run.anchor + BitVec.ofNat 64 (0x200 + 32 * k.val))
              (tallyBytes (s.channel k).tally)))
        ∧ (∀ k bytes v x, r = .frameRecord k bytes → (s.channel k).frame = some v → v.slot = some x →
          exec .admission s = .next (after (.frameRecord k) x.address bytes))
        ∧ ∀ k v x, r = .metadataCopy k → (s.channel k).frame = some v → v.slot = some x →
          exec .admission s = .next
            { after (.metadataCopy k v.frameNumber) (x.address + 256) ((s.tracker.banks[v.bank]).bytes.take v.copyLength) with
              channels := s.channels.set k { s.channel k with frame := some { v with copy := .outstanding } } })
    ∧ ∀ (s : State) (k : ViewId) (v : ViewFrame) (x : Slot) (r : StagedRow) (i : Nat), s.live →
        s.queue.entries.length < 32 → s.queue.requests = [] → s.rowReady k →
        (∀ j : ViewId, (j - s.queue.pointer).val < (k - s.queue.pointer).val → ¬s.rowReady j) →
        (s.channel k).frame = some v → v.slot = some x → IsNext v.staging r i →
        exec .admission s = .next
          { s with
            channels :=
              s.channels.set k
                { s.channel k with
                  frame := some { v with staging := markTransaction r.number i .outstanding v.staging } }
            queue :=
              { s.written (.row k r.number i)
                  (x.address + BitVec.ofNat 64 (256 + v.sizes.metadataArea + r.number * v.sizes.stride + i * 4096))
                  ((r.bytes.drop (i * 4096)).take 4096) with
                pointer := k + 1 }
            port := { s.port with nextTag := s.port.nextTag + 1 } }

/-- The responses to a row transaction and to a metadata copy: OK counts the row once all its transactions are OK, or records the
copy's bytes; ERROR abandons the view frame with BUS_ERROR, unless a first cause stands; a response to another view frame's copy is
dropped. That the end timestamp is written again for a complete view frame in FLUSHING is the model's reading (log 8). -/
def Obligations.WritesAnswered : Prop :=
  (∀ (s : State) (tag : Nat) (k : ViewId) (n i : Nat) (v : ViewFrame), s.live → s.awaitsWrite tag (.row k n i) →
      (s.channel k).frame = some v →
      let u := s.dropWrite tag
      let ok := markTransaction n i .ok v.staging
      let failed := markTransaction n i .failed v.staging
      let remaining (staging : List CellRow) : List CellRow :=
        staging.filter fun c =>
          c.rows.any fun r => r.transactions.any fun t => t = .waiting || t = .outstanding
      (exec (.rowWriteResponse tag .ok) s = .next
        { u with
          channels :=
            s.channels.set k
              { s.channel k with
                frame :=
                  some
                    { v with
                      staging := remaining ok
                      rowsWritten :=
                        v.rowsWritten
                          + (if (stagedRow n ok).any fun r => r.transactions.all fun t => t = .ok then 1 else 0) } } })
      ∧ (v.abandoned.isSome = true →
        exec (.rowWriteResponse tag .error) s = .next
          { u with channels := s.channels.set k { s.channel k with frame := some { v with staging := remaining failed } } })
      ∧ (v.abandoned = none → v.firstWrite = .exchanged → (s.channel k).state = .active ∨ (s.channel k).state = .flushing →
        ∃ t, exec (.rowWriteResponse tag .error) s = .next t ∧ BusError k v u t))
    ∧ ∀ (s : State) (tag : Nat) (k : ViewId) (n : Half) (v : ViewFrame), s.live → s.awaitsWrite tag (.metadataCopy k n) →
      (s.channel k).frame = some v →
      let u := s.dropWrite tag
      (v.frameNumber ≠ n → ∀ answer, exec (.metadataCopyResponse tag answer) s = .next u)
      ∧ (v.frameNumber = n →
        exec (.metadataCopyResponse tag .ok) s = .next
          { u with
            channels :=
              s.channels.set k
                { s.channel k with frame := some { v with copy := .answered, metadataBytes := v.copyLength } } }
        ∧ (v.abandoned.isSome = true →
          exec (.metadataCopyResponse tag .error) s = .next
            { u with channels := s.channels.set k { s.channel k with frame := some { v with copy := .answered } } })
        ∧ (v.abandoned = none → v.firstWrite = .exchanged →
          (s.channel k).state = .active ∨ (s.channel k).state = .flushing →
          ∃ t, exec (.metadataCopyResponse tag .error) s = .next t ∧ BusError k v u t))

/-- A STOPPING or ABORTING run reaches STOPPED when every block is quiet and nothing is outstanding, and not before: at its own
command, as log 14 has it, which before then leaves the state (log 3): both are the model's choice. -/
def Obligations.RunReachesStopped : Prop :=
  ∀ s : State,
    (s.stopReady →
      exec .runStopped s = .next
        { s with
          run := { s.run with state := .stopped }
          receiver := { huntFrom s.receiver with state := .off }
          plan := { s.plan with candidate := none }
          attention := { s.attention with flags := s.attention.flags ||| 0x1000 } })
    ∧ (¬s.stopReady → exec .runStopped s = .next s)

/-! ### Records and arithmetic -/

/-- The bytes of the four records the part writes, field by field (spec 11 Tables 11-3 to 11-5 and 11-10), least significant byte first;
with the codes of the outcome classes and causes (Table 6-4) and of the rejection reasons, and the kind of each reason (Table 1-5). -/
def Obligations.RecordsLaidOut : Prop :=
  let at' (bytes : List Byte) (offset count : Nat) : List Byte := (bytes.drop offset).take count
  (∀ (k : ViewId) (v : ViewFrame),
      let b := frameRecordBytes k v
      b.length = 256 ∧ at' b 0x00 2 = leBytes 2 v.frameNumber.toNat ∧ at' b 0x02 1 = [BitVec.ofNat 8 k.val]
        ∧ (v.abandoned = none → at' b 0x03 2 = [1, 1])
        ∧ (∀ cause, v.abandoned = some cause → at' b 0x03 2 = [2, BitVec.ofNat 8 cause.code])
        ∧ at' b 0x05 1 = leBytes 1 v.descriptor.outDepth
        ∧ (∀ i, i < 16 → (BitVec.ofNat 16 (leValue (at' b 0x06 2))).getLsbD i =
            ((i = 0 && decide (0 < v.holeRows)) || (i = 1 && v.metaTruncated) || (i = 2 && v.metaLost)
              || (i = 3 && decide (v.saturated ≠ 0))))
        ∧ at' b 0x08 4 = leBytes 4 v.planSequence.toNat ∧ at' b 0x0C 2 = leBytes 2 v.sizes.outWidth
        ∧ at' b 0x0E 2 = leBytes 2 v.sizes.outHeight ∧ at' b 0x10 2 = leBytes 2 v.rowsWritten ∧ at' b 0x12 2 = [0, 0]
        ∧ at' b 0x14 4 = leBytes 4 v.sizes.stride ∧ at' b 0x18 2 = leBytes 2 v.metadataBytes
        ∧ at' b 0x1A 2 = leBytes 2 v.missingRows ∧ at' b 0x1C 2 = leBytes 2 v.holeRows ∧ at' b 0x1E 2 = [0, 0]
        ∧ at' b 0x20 4 = leBytes 4 v.saturated.toNat ∧ at' b 0x24 4 = [0, 0, 0, 0]
        ∧ at' b 0x28 8 = leBytes 8 v.startTime.toNat ∧ at' b 0x30 8 = leBytes 8 v.endTime.toNat
        ∧ at' b 0x38 200 = List.replicate 200 0)
    ∧ (∀ y : Tally,
      let b := tallyBytes y
      b.length = 32 ∧ at' b 0x00 4 = leBytes 4 y.delivered.toNat ∧ at' b 0x04 4 = leBytes 4 y.torn.toNat
        ∧ at' b 0x08 4 = leBytes 4 y.returned.toNat ∧ at' b 0x0C 4 = leBytes 4 y.skipped.toNat
        ∧ at' b 0x10 4 = leBytes 4 y.lost.toNat ∧ at' b 0x14 2 = leBytes 2 y.lastFrame.toNat
        ∧ at' b 0x16 2 = [BitVec.ofNat 8 y.lastClass.code, BitVec.ofNat 8 y.lastCause.code]
        ∧ at' b 0x18 8 = List.replicate 8 0)
    ∧ (∀ (x : Tracker) (r : Receiver),
      let b := linkTallyBytes x r
      b.length = 64 ∧ at' b 0x00 4 = leBytes 4 x.framesStarted.toNat ∧ at' b 0x04 4 = leBytes 4 x.framesEnded.toNat
        ∧ at' b 0x08 4 = leBytes 4 x.framesTruncated.toNat ∧ at' b 0x0C 4 = leBytes 4 r.headerErrors.toNat
        ∧ at' b 0x10 4 = leBytes 4 r.checkErrors.toNat ∧ at' b 0x14 4 = leBytes 4 r.lengthErrors.toNat
        ∧ at' b 0x18 4 = leBytes 4 x.orderErrors.toNat ∧ at' b 0x1C 4 = leBytes 4 x.strayPackets.toNat
        ∧ at' b 0x20 4 = leBytes 4 r.lockLosses.toNat ∧ at' b 0x24 4 = leBytes 4 x.gapTimeouts.toNat
        ∧ at' b 0x28 24 = List.replicate 24 0)
    ∧ (∀ p : Report,
      let b := adoptionWordBytes p
      b.length = 32 ∧ at' b 0x00 4 = leBytes 4 p.adoptedSequence.toNat ∧ at' b 0x04 4 = leBytes 4 p.adoptionFrame.toNat
        ∧ at' b 0x08 4 = leBytes 4 p.rejectedSequence.toNat
        ∧ at' b 0x0C 4 = [BitVec.ofNat 8 p.reason.code, p.rejectedView, 0, 0]
        ∧ at' b 0x10 4 = leBytes 4 p.deferrals.toNat ∧ at' b 0x14 4 = leBytes 4 p.transients.toNat
        ∧ at' b 0x18 4 = leBytes 4 p.discards.toNat ∧ at' b 0x1C 4 = [0, 0, 0, 0])
    ∧ (let classes : List OutcomeClass := [.none, .delivered, .torn, .returned, .skipped, .lost]
      classes.map OutcomeClass.code = [0, 1, 2, 3, 4, 5])
    ∧ (let causes : List OutcomeCause :=
        [.none, .complete, .rowLoss, .truncated, .gapTimeout, .linkLost, .overrun, .busError, .aborted, .lateBuffer, .starved,
          .poolFault, .formatMismatch, .busy, .adopting, .stolen]
      causes.map OutcomeCause.code = [0, 1, 2, 3, 4, 5, 6, 7, 8, 9, 10, 11, 12, 13, 14, 15])
    ∧ (let reasons : List Reason :=
        [.none, .tornPage, .readError, .badHeader, .badView, .badPool, .lineMemory, .badLinkWord, .badPoolTable]
      reasons.map Reason.code = [0, 1, 2, 3, 4, 5, 6, 7, 8]
        ∧ (∀ r : Reason, r.transient = true ↔ r = .tornPage ∨ r = .readError)
        ∧ ∀ r : Reason, r.definitive = true ↔ r = .badHeader ∨ r = .badView ∨ r = .badPool ∨ r = .lineMemory)
    ∧ (∀ count value i : Nat, i < count → (leBytes count value)[i]? = some (BitVec.ofNat 8 (value / 256 ^ i)))
    ∧ ∀ count value, value < 256 ^ count → (leBytes count value).length = count ∧ leValue (leBytes count value) = value

/-- The conditioning of one pixel: the offset, the gain, the depth conversion and the clip, with their bounds (log 23 for the bound the
spec states at the largest offset). -/
def Obligations.PixelsConditioned : Prop :=
  (∀ offset a : Nat, (offset < a → offsetStep offset a = a - offset) ∧ (a ≤ offset → offsetStep offset a = 0))
    ∧ (∀ gain b : Nat, gainStep gain b = (b * gain + 128) / 256)
    ∧ (∀ b : Nat, gainStep 256 b = b ∧ gainStep 0 b = 0)
    ∧ (∀ din offset a gain : Nat, din = 10 ∨ din = 12 ∨ din = 14 → a < 2 ^ din → gain ≤ 4095 →
        offsetStep offset a < 2 ^ din ∧ gainStep gain (offsetStep offset a) ≤ 262064
          ∧ (offset < 2 ^ din - 1 → 1 ≤ offsetStep offset (2 ^ din - 1)))
    ∧ gainStep 4095 16383 = 262064
    ∧ (∀ din dout c : Nat,
        (din = dout → depthStep din dout c = c)
        ∧ (din < dout → depthStep din dout c = c * 2 ^ (dout - din))
        ∧ (dout < din → depthStep din dout c = (c + 2 ^ (din - dout - 1)) / 2 ^ (din - dout)))
    ∧ (∀ din dout c : Nat, din = 10 ∨ din = 12 ∨ din = 14 → dout = 8 ∨ dout = 10 ∨ dout = 12 ∨ dout = 16 → c ≤ 262064 →
        depthStep din dout c ≤ 16772096)
    ∧ ∀ (din a : Nat) (d : Descriptor),
        let converted := depthStep din d.outDepth (gainStep d.gain (offsetStep d.blackOffset a))
        (2 ^ d.outDepth - 1 < converted → storedPixel din d a = 2 ^ d.outDepth - 1 ∧ clips din d a = true)
        ∧ (converted ≤ 2 ^ d.outDepth - 1 → storedPixel din d a = converted ∧ clips din d a = false)

/-! ### Promises kept by every step -/

/-- Every promise of Safety.lean holds after power-on reset. -/
def Obligations.SoundAtReset : Prop := State.reset.Sound

/-- The frame counts balance, the next row stays within the height, and the metadata banks within their bounds, at every step. -/
def Obligations.TrackerKeepsPromises : Prop :=
  (∀ s t : State, s.framesBalanced → step s = .next t → t.framesBalanced)
    ∧ ∀ s t : State, s.trackerBounded → step s = .next t → t.trackerBounded

/-- The receiver is OFF outside a run, and its counts, phases and lanes stay in their ranges, at every step. -/
def Obligations.ReceiverKeepsPromises : Prop :=
  ∀ s t : State, s.receiverRests → s.receiverBounded → step s = .next t → t.receiverRests ∧ t.receiverBounded

/-- A channel is IDLE exactly when it carries no view frame, its staging holds at most two cell-rows, and every outstanding
compare-exchange is one of the six transitions, at every step. -/
def Obligations.ChannelsKeepPromises : Prop :=
  ∀ s t : State, s.framesMatch → s.stagingBounded → s.sixTransitions → step s = .next t →
    t.framesMatch ∧ t.stagingBounded ∧ t.sixTransitions

/-- At most 32 writes are outstanding, no two requests of one kind and owner wait, and the line blocks sum to at most 512, at every
step. -/
def Obligations.MemoryPathKeepsPromises : Prop :=
  (∀ s t : State, s.queueBounded → step s = .next t → t.queueBounded)
    ∧ (∀ s t : State, s.requestsDistinct → step s = .next t → t.requestsDistinct)
    ∧ ∀ s t : State, s.lineMemoryBounded → step s = .next t → t.lineMemoryBounded

/-- Outstanding transactions carry tags not used before, no two of them the same, at every step; and after a reset every later
transaction's tag is above those of the transactions the reset forgot (the tags are the model's, log 2 and log 20). -/
def Obligations.TagsNeverReused : Prop :=
  (∀ (first : Nat) (s t : State), s.tagsFrom first → step s = .next t → t.tagsFrom first)
    ∧ ∀ (s t : State) (c : Instr), c = .reset ∨ c = .powerOnReset ∨ c = .portReset → exec c s = .next t →
        t.tagsFrom s.port.nextTag
end

