-- ==== Sys2Proof/Laws/State.lean ====
section
/-! SUPPORT. One lemma per field per update of State, so that no proof unfolds a record update. -/

namespace Sys2Proof.Machine

variable (s : State)

/-! ### raise -/

@[simp] theorem State.raise_attention_flags_new (c : AttentionCause) : (s.raise c).attention.flags = s.attention.flags ||| c.mask := rfl
@[simp] theorem State.raise_run (c : AttentionCause) : (s.raise c).run = s.run := rfl
@[simp] theorem State.raise_attention_enables (c : AttentionCause) : (s.raise c).attention.enables = s.attention.enables := rfl
@[simp] theorem State.raise_timebase (c : AttentionCause) : (s.raise c).timebase = s.timebase := rfl
@[simp] theorem State.raise_receiver (c : AttentionCause) : (s.raise c).receiver = s.receiver := rfl
@[simp] theorem State.raise_tracker (c : AttentionCause) : (s.raise c).tracker = s.tracker := rfl
@[simp] theorem State.raise_plan (c : AttentionCause) : (s.raise c).plan = s.plan := rfl
@[simp] theorem State.raise_scanners (c : AttentionCause) : (s.raise c).scanners = s.scanners := rfl
@[simp] theorem State.raise_channels (c : AttentionCause) : (s.raise c).channels = s.channels := rfl
@[simp] theorem State.raise_allocations (c : AttentionCause) : (s.raise c).allocations = s.allocations := rfl
@[simp] theorem State.raise_queue (c : AttentionCause) : (s.raise c).queue = s.queue := rfl
@[simp] theorem State.raise_port (c : AttentionCause) : (s.raise c).port = s.port := rfl
@[simp] theorem State.raise_pending (c : AttentionCause) : (s.raise c).pending = s.pending := rfl

/-! ### clearFlags -/

@[simp] theorem State.clearFlags_attention_flags_new (x : Word) : (s.clearFlags x).attention.flags = s.attention.flags &&& ~~~(x.extractLsb' 0 14) := rfl
@[simp] theorem State.clearFlags_run (x : Word) : (s.clearFlags x).run = s.run := rfl
@[simp] theorem State.clearFlags_attention_enables (x : Word) : (s.clearFlags x).attention.enables = s.attention.enables := rfl
@[simp] theorem State.clearFlags_timebase (x : Word) : (s.clearFlags x).timebase = s.timebase := rfl
@[simp] theorem State.clearFlags_receiver (x : Word) : (s.clearFlags x).receiver = s.receiver := rfl
@[simp] theorem State.clearFlags_tracker (x : Word) : (s.clearFlags x).tracker = s.tracker := rfl
@[simp] theorem State.clearFlags_plan (x : Word) : (s.clearFlags x).plan = s.plan := rfl
@[simp] theorem State.clearFlags_scanners (x : Word) : (s.clearFlags x).scanners = s.scanners := rfl
@[simp] theorem State.clearFlags_channels (x : Word) : (s.clearFlags x).channels = s.channels := rfl
@[simp] theorem State.clearFlags_allocations (x : Word) : (s.clearFlags x).allocations = s.allocations := rfl
@[simp] theorem State.clearFlags_queue (x : Word) : (s.clearFlags x).queue = s.queue := rfl
@[simp] theorem State.clearFlags_port (x : Word) : (s.clearFlags x).port = s.port := rfl
@[simp] theorem State.clearFlags_pending (x : Word) : (s.clearFlags x).pending = s.pending := rfl

/-! ### setEnables -/

@[simp] theorem State.setEnables_attention_enables_new (x : Word) : (s.setEnables x).attention.enables = x.extractLsb' 0 14 := rfl
@[simp] theorem State.setEnables_run (x : Word) : (s.setEnables x).run = s.run := rfl
@[simp] theorem State.setEnables_attention_flags (x : Word) : (s.setEnables x).attention.flags = s.attention.flags := rfl
@[simp] theorem State.setEnables_timebase (x : Word) : (s.setEnables x).timebase = s.timebase := rfl
@[simp] theorem State.setEnables_receiver (x : Word) : (s.setEnables x).receiver = s.receiver := rfl
@[simp] theorem State.setEnables_tracker (x : Word) : (s.setEnables x).tracker = s.tracker := rfl
@[simp] theorem State.setEnables_plan (x : Word) : (s.setEnables x).plan = s.plan := rfl
@[simp] theorem State.setEnables_scanners (x : Word) : (s.setEnables x).scanners = s.scanners := rfl
@[simp] theorem State.setEnables_channels (x : Word) : (s.setEnables x).channels = s.channels := rfl
@[simp] theorem State.setEnables_allocations (x : Word) : (s.setEnables x).allocations = s.allocations := rfl
@[simp] theorem State.setEnables_queue (x : Word) : (s.setEnables x).queue = s.queue := rfl
@[simp] theorem State.setEnables_port (x : Word) : (s.setEnables x).port = s.port := rfl
@[simp] theorem State.setEnables_pending (x : Word) : (s.setEnables x).pending = s.pending := rfl

/-! ### setRunState -/

@[simp] theorem State.setRunState_run_state_new (r : RunState) : (s.setRunState r).run.state = r := rfl
@[simp] theorem State.setRunState_run_result (r : RunState) : (s.setRunState r).run.result = s.run.result := rfl
@[simp] theorem State.setRunState_run_anchor (r : RunState) : (s.setRunState r).run.anchor = s.run.anchor := rfl
@[simp] theorem State.setRunState_run_progress (r : RunState) : (s.setRunState r).run.progress = s.run.progress := rfl
@[simp] theorem State.setRunState_run_lanesRead (r : RunState) : (s.setRunState r).run.lanesRead = s.run.lanesRead := rfl
@[simp] theorem State.setRunState_run_pools (r : RunState) : (s.setRunState r).run.pools = s.run.pools := rfl
@[simp] theorem State.setRunState_attention (r : RunState) : (s.setRunState r).attention = s.attention := rfl
@[simp] theorem State.setRunState_timebase (r : RunState) : (s.setRunState r).timebase = s.timebase := rfl
@[simp] theorem State.setRunState_receiver (r : RunState) : (s.setRunState r).receiver = s.receiver := rfl
@[simp] theorem State.setRunState_tracker (r : RunState) : (s.setRunState r).tracker = s.tracker := rfl
@[simp] theorem State.setRunState_plan (r : RunState) : (s.setRunState r).plan = s.plan := rfl
@[simp] theorem State.setRunState_scanners (r : RunState) : (s.setRunState r).scanners = s.scanners := rfl
@[simp] theorem State.setRunState_channels (r : RunState) : (s.setRunState r).channels = s.channels := rfl
@[simp] theorem State.setRunState_allocations (r : RunState) : (s.setRunState r).allocations = s.allocations := rfl
@[simp] theorem State.setRunState_queue (r : RunState) : (s.setRunState r).queue = s.queue := rfl
@[simp] theorem State.setRunState_port (r : RunState) : (s.setRunState r).port = s.port := rfl
@[simp] theorem State.setRunState_pending (r : RunState) : (s.setRunState r).pending = s.pending := rfl

/-! ### record -/

@[simp] theorem State.record_run_result_new (r : CommandResult) : (s.record r).run.result = r := rfl
@[simp] theorem State.record_run_state (r : CommandResult) : (s.record r).run.state = s.run.state := rfl
@[simp] theorem State.record_run_anchor (r : CommandResult) : (s.record r).run.anchor = s.run.anchor := rfl
@[simp] theorem State.record_run_progress (r : CommandResult) : (s.record r).run.progress = s.run.progress := rfl
@[simp] theorem State.record_run_lanesRead (r : CommandResult) : (s.record r).run.lanesRead = s.run.lanesRead := rfl
@[simp] theorem State.record_run_pools (r : CommandResult) : (s.record r).run.pools = s.run.pools := rfl
@[simp] theorem State.record_attention (r : CommandResult) : (s.record r).attention = s.attention := rfl
@[simp] theorem State.record_timebase (r : CommandResult) : (s.record r).timebase = s.timebase := rfl
@[simp] theorem State.record_receiver (r : CommandResult) : (s.record r).receiver = s.receiver := rfl
@[simp] theorem State.record_tracker (r : CommandResult) : (s.record r).tracker = s.tracker := rfl
@[simp] theorem State.record_plan (r : CommandResult) : (s.record r).plan = s.plan := rfl
@[simp] theorem State.record_scanners (r : CommandResult) : (s.record r).scanners = s.scanners := rfl
@[simp] theorem State.record_channels (r : CommandResult) : (s.record r).channels = s.channels := rfl
@[simp] theorem State.record_allocations (r : CommandResult) : (s.record r).allocations = s.allocations := rfl
@[simp] theorem State.record_queue (r : CommandResult) : (s.record r).queue = s.queue := rfl
@[simp] theorem State.record_port (r : CommandResult) : (s.record r).port = s.port := rfl
@[simp] theorem State.record_pending (r : CommandResult) : (s.record r).pending = s.pending := rfl

/-! ### setProgress -/

@[simp] theorem State.setProgress_run_progress_new (p : StartProgress) : (s.setProgress p).run.progress = p := rfl
@[simp] theorem State.setProgress_run_state (p : StartProgress) : (s.setProgress p).run.state = s.run.state := rfl
@[simp] theorem State.setProgress_run_result (p : StartProgress) : (s.setProgress p).run.result = s.run.result := rfl
@[simp] theorem State.setProgress_run_anchor (p : StartProgress) : (s.setProgress p).run.anchor = s.run.anchor := rfl
@[simp] theorem State.setProgress_run_lanesRead (p : StartProgress) : (s.setProgress p).run.lanesRead = s.run.lanesRead := rfl
@[simp] theorem State.setProgress_run_pools (p : StartProgress) : (s.setProgress p).run.pools = s.run.pools := rfl
@[simp] theorem State.setProgress_attention (p : StartProgress) : (s.setProgress p).attention = s.attention := rfl
@[simp] theorem State.setProgress_timebase (p : StartProgress) : (s.setProgress p).timebase = s.timebase := rfl
@[simp] theorem State.setProgress_receiver (p : StartProgress) : (s.setProgress p).receiver = s.receiver := rfl
@[simp] theorem State.setProgress_tracker (p : StartProgress) : (s.setProgress p).tracker = s.tracker := rfl
@[simp] theorem State.setProgress_plan (p : StartProgress) : (s.setProgress p).plan = s.plan := rfl
@[simp] theorem State.setProgress_scanners (p : StartProgress) : (s.setProgress p).scanners = s.scanners := rfl
@[simp] theorem State.setProgress_channels (p : StartProgress) : (s.setProgress p).channels = s.channels := rfl
@[simp] theorem State.setProgress_allocations (p : StartProgress) : (s.setProgress p).allocations = s.allocations := rfl
@[simp] theorem State.setProgress_queue (p : StartProgress) : (s.setProgress p).queue = s.queue := rfl
@[simp] theorem State.setProgress_port (p : StartProgress) : (s.setProgress p).port = s.port := rfl
@[simp] theorem State.setProgress_pending (p : StartProgress) : (s.setProgress p).pending = s.pending := rfl

/-! ### setChannel -/

@[simp] theorem State.setChannel_run (k : ViewId) (c : Channel) : (s.setChannel k c).run = s.run := rfl
@[simp] theorem State.setChannel_attention (k : ViewId) (c : Channel) : (s.setChannel k c).attention = s.attention := rfl
@[simp] theorem State.setChannel_timebase (k : ViewId) (c : Channel) : (s.setChannel k c).timebase = s.timebase := rfl
@[simp] theorem State.setChannel_receiver (k : ViewId) (c : Channel) : (s.setChannel k c).receiver = s.receiver := rfl
@[simp] theorem State.setChannel_tracker (k : ViewId) (c : Channel) : (s.setChannel k c).tracker = s.tracker := rfl
@[simp] theorem State.setChannel_plan (k : ViewId) (c : Channel) : (s.setChannel k c).plan = s.plan := rfl
@[simp] theorem State.setChannel_scanners (k : ViewId) (c : Channel) : (s.setChannel k c).scanners = s.scanners := rfl
@[simp] theorem State.setChannel_allocations (k : ViewId) (c : Channel) : (s.setChannel k c).allocations = s.allocations := rfl
@[simp] theorem State.setChannel_queue (k : ViewId) (c : Channel) : (s.setChannel k c).queue = s.queue := rfl
@[simp] theorem State.setChannel_port (k : ViewId) (c : Channel) : (s.setChannel k c).port = s.port := rfl
@[simp] theorem State.setChannel_pending (k : ViewId) (c : Channel) : (s.setChannel k c).pending = s.pending := rfl

/-! ### setFrame -/

@[simp] theorem State.setFrame_run (k : ViewId) (v : ViewFrame) : (s.setFrame k v).run = s.run := rfl
@[simp] theorem State.setFrame_attention (k : ViewId) (v : ViewFrame) : (s.setFrame k v).attention = s.attention := rfl
@[simp] theorem State.setFrame_timebase (k : ViewId) (v : ViewFrame) : (s.setFrame k v).timebase = s.timebase := rfl
@[simp] theorem State.setFrame_receiver (k : ViewId) (v : ViewFrame) : (s.setFrame k v).receiver = s.receiver := rfl
@[simp] theorem State.setFrame_tracker (k : ViewId) (v : ViewFrame) : (s.setFrame k v).tracker = s.tracker := rfl
@[simp] theorem State.setFrame_plan (k : ViewId) (v : ViewFrame) : (s.setFrame k v).plan = s.plan := rfl
@[simp] theorem State.setFrame_scanners (k : ViewId) (v : ViewFrame) : (s.setFrame k v).scanners = s.scanners := rfl
@[simp] theorem State.setFrame_allocations (k : ViewId) (v : ViewFrame) : (s.setFrame k v).allocations = s.allocations := rfl
@[simp] theorem State.setFrame_queue (k : ViewId) (v : ViewFrame) : (s.setFrame k v).queue = s.queue := rfl
@[simp] theorem State.setFrame_port (k : ViewId) (v : ViewFrame) : (s.setFrame k v).port = s.port := rfl
@[simp] theorem State.setFrame_pending (k : ViewId) (v : ViewFrame) : (s.setFrame k v).pending = s.pending := rfl

/-! ### moveChannel -/

@[simp] theorem State.moveChannel_run (k : ViewId) (c : ChannelState) (v : ViewFrame) : (s.moveChannel k c v).run = s.run := rfl
@[simp] theorem State.moveChannel_attention (k : ViewId) (c : ChannelState) (v : ViewFrame) : (s.moveChannel k c v).attention = s.attention := rfl
@[simp] theorem State.moveChannel_timebase (k : ViewId) (c : ChannelState) (v : ViewFrame) : (s.moveChannel k c v).timebase = s.timebase := rfl
@[simp] theorem State.moveChannel_receiver (k : ViewId) (c : ChannelState) (v : ViewFrame) : (s.moveChannel k c v).receiver = s.receiver := rfl
@[simp] theorem State.moveChannel_tracker (k : ViewId) (c : ChannelState) (v : ViewFrame) : (s.moveChannel k c v).tracker = s.tracker := rfl
@[simp] theorem State.moveChannel_plan (k : ViewId) (c : ChannelState) (v : ViewFrame) : (s.moveChannel k c v).plan = s.plan := rfl
@[simp] theorem State.moveChannel_scanners (k : ViewId) (c : ChannelState) (v : ViewFrame) : (s.moveChannel k c v).scanners = s.scanners := rfl
@[simp] theorem State.moveChannel_allocations (k : ViewId) (c : ChannelState) (v : ViewFrame) : (s.moveChannel k c v).allocations = s.allocations := rfl
@[simp] theorem State.moveChannel_queue (k : ViewId) (c : ChannelState) (v : ViewFrame) : (s.moveChannel k c v).queue = s.queue := rfl
@[simp] theorem State.moveChannel_port (k : ViewId) (c : ChannelState) (v : ViewFrame) : (s.moveChannel k c v).port = s.port := rfl
@[simp] theorem State.moveChannel_pending (k : ViewId) (c : ChannelState) (v : ViewFrame) : (s.moveChannel k c v).pending = s.pending := rfl

/-! ### setScanner -/

@[simp] theorem State.setScanner_run (p : PoolId) (x : Scanner) : (s.setScanner p x).run = s.run := rfl
@[simp] theorem State.setScanner_attention (p : PoolId) (x : Scanner) : (s.setScanner p x).attention = s.attention := rfl
@[simp] theorem State.setScanner_timebase (p : PoolId) (x : Scanner) : (s.setScanner p x).timebase = s.timebase := rfl
@[simp] theorem State.setScanner_receiver (p : PoolId) (x : Scanner) : (s.setScanner p x).receiver = s.receiver := rfl
@[simp] theorem State.setScanner_tracker (p : PoolId) (x : Scanner) : (s.setScanner p x).tracker = s.tracker := rfl
@[simp] theorem State.setScanner_plan (p : PoolId) (x : Scanner) : (s.setScanner p x).plan = s.plan := rfl
@[simp] theorem State.setScanner_channels (p : PoolId) (x : Scanner) : (s.setScanner p x).channels = s.channels := rfl
@[simp] theorem State.setScanner_allocations (p : PoolId) (x : Scanner) : (s.setScanner p x).allocations = s.allocations := rfl
@[simp] theorem State.setScanner_queue (p : PoolId) (x : Scanner) : (s.setScanner p x).queue = s.queue := rfl
@[simp] theorem State.setScanner_port (p : PoolId) (x : Scanner) : (s.setScanner p x).port = s.port := rfl
@[simp] theorem State.setScanner_pending (p : PoolId) (x : Scanner) : (s.setScanner p x).pending = s.pending := rfl

/-! ### setTracker -/

@[simp] theorem State.setTracker_tracker_new (t : Tracker) : (s.setTracker t).tracker = t := rfl
@[simp] theorem State.setTracker_run (t : Tracker) : (s.setTracker t).run = s.run := rfl
@[simp] theorem State.setTracker_attention (t : Tracker) : (s.setTracker t).attention = s.attention := rfl
@[simp] theorem State.setTracker_timebase (t : Tracker) : (s.setTracker t).timebase = s.timebase := rfl
@[simp] theorem State.setTracker_receiver (t : Tracker) : (s.setTracker t).receiver = s.receiver := rfl
@[simp] theorem State.setTracker_plan (t : Tracker) : (s.setTracker t).plan = s.plan := rfl
@[simp] theorem State.setTracker_scanners (t : Tracker) : (s.setTracker t).scanners = s.scanners := rfl
@[simp] theorem State.setTracker_channels (t : Tracker) : (s.setTracker t).channels = s.channels := rfl
@[simp] theorem State.setTracker_allocations (t : Tracker) : (s.setTracker t).allocations = s.allocations := rfl
@[simp] theorem State.setTracker_queue (t : Tracker) : (s.setTracker t).queue = s.queue := rfl
@[simp] theorem State.setTracker_port (t : Tracker) : (s.setTracker t).port = s.port := rfl
@[simp] theorem State.setTracker_pending (t : Tracker) : (s.setTracker t).pending = s.pending := rfl

/-! ### setReceiver -/

@[simp] theorem State.setReceiver_receiver_new (r : Receiver) : (s.setReceiver r).receiver = r := rfl
@[simp] theorem State.setReceiver_run (r : Receiver) : (s.setReceiver r).run = s.run := rfl
@[simp] theorem State.setReceiver_attention (r : Receiver) : (s.setReceiver r).attention = s.attention := rfl
@[simp] theorem State.setReceiver_timebase (r : Receiver) : (s.setReceiver r).timebase = s.timebase := rfl
@[simp] theorem State.setReceiver_tracker (r : Receiver) : (s.setReceiver r).tracker = s.tracker := rfl
@[simp] theorem State.setReceiver_plan (r : Receiver) : (s.setReceiver r).plan = s.plan := rfl
@[simp] theorem State.setReceiver_scanners (r : Receiver) : (s.setReceiver r).scanners = s.scanners := rfl
@[simp] theorem State.setReceiver_channels (r : Receiver) : (s.setReceiver r).channels = s.channels := rfl
@[simp] theorem State.setReceiver_allocations (r : Receiver) : (s.setReceiver r).allocations = s.allocations := rfl
@[simp] theorem State.setReceiver_queue (r : Receiver) : (s.setReceiver r).queue = s.queue := rfl
@[simp] theorem State.setReceiver_port (r : Receiver) : (s.setReceiver r).port = s.port := rfl
@[simp] theorem State.setReceiver_pending (r : Receiver) : (s.setReceiver r).pending = s.pending := rfl

/-! ### setPlan -/

@[simp] theorem State.setPlan_plan_new (p : PlanUnit) : (s.setPlan p).plan = p := rfl
@[simp] theorem State.setPlan_run (p : PlanUnit) : (s.setPlan p).run = s.run := rfl
@[simp] theorem State.setPlan_attention (p : PlanUnit) : (s.setPlan p).attention = s.attention := rfl
@[simp] theorem State.setPlan_timebase (p : PlanUnit) : (s.setPlan p).timebase = s.timebase := rfl
@[simp] theorem State.setPlan_receiver (p : PlanUnit) : (s.setPlan p).receiver = s.receiver := rfl
@[simp] theorem State.setPlan_tracker (p : PlanUnit) : (s.setPlan p).tracker = s.tracker := rfl
@[simp] theorem State.setPlan_scanners (p : PlanUnit) : (s.setPlan p).scanners = s.scanners := rfl
@[simp] theorem State.setPlan_channels (p : PlanUnit) : (s.setPlan p).channels = s.channels := rfl
@[simp] theorem State.setPlan_allocations (p : PlanUnit) : (s.setPlan p).allocations = s.allocations := rfl
@[simp] theorem State.setPlan_queue (p : PlanUnit) : (s.setPlan p).queue = s.queue := rfl
@[simp] theorem State.setPlan_port (p : PlanUnit) : (s.setPlan p).port = s.port := rfl
@[simp] theorem State.setPlan_pending (p : PlanUnit) : (s.setPlan p).pending = s.pending := rfl

/-! ### issue -/

@[simp] theorem State.issue_run (r : PortRole) (a : PortAccess) : (s.issue r a).run = s.run := by unfold State.issue; split <;> rfl
@[simp] theorem State.issue_attention (r : PortRole) (a : PortAccess) : (s.issue r a).attention = s.attention := by unfold State.issue; split <;> rfl
@[simp] theorem State.issue_timebase (r : PortRole) (a : PortAccess) : (s.issue r a).timebase = s.timebase := by unfold State.issue; split <;> rfl
@[simp] theorem State.issue_receiver (r : PortRole) (a : PortAccess) : (s.issue r a).receiver = s.receiver := by unfold State.issue; split <;> rfl
@[simp] theorem State.issue_tracker (r : PortRole) (a : PortAccess) : (s.issue r a).tracker = s.tracker := by unfold State.issue; split <;> rfl
@[simp] theorem State.issue_plan (r : PortRole) (a : PortAccess) : (s.issue r a).plan = s.plan := by unfold State.issue; split <;> rfl
@[simp] theorem State.issue_scanners (r : PortRole) (a : PortAccess) : (s.issue r a).scanners = s.scanners := by unfold State.issue; split <;> rfl
@[simp] theorem State.issue_channels (r : PortRole) (a : PortAccess) : (s.issue r a).channels = s.channels := by unfold State.issue; split <;> rfl
@[simp] theorem State.issue_allocations (r : PortRole) (a : PortAccess) : (s.issue r a).allocations = s.allocations := by unfold State.issue; split <;> rfl
@[simp] theorem State.issue_queue (r : PortRole) (a : PortAccess) : (s.issue r a).queue = s.queue := by unfold State.issue; split <;> rfl
@[simp] theorem State.issue_pending (r : PortRole) (a : PortAccess) : (s.issue r a).pending = s.pending := by unfold State.issue; split <;> rfl

/-! ### enqueue -/

@[simp] theorem State.enqueue_run (r : WriteRole) (a : DWord) (d : List Byte) : (s.enqueue r a d).run = s.run := rfl
@[simp] theorem State.enqueue_attention (r : WriteRole) (a : DWord) (d : List Byte) : (s.enqueue r a d).attention = s.attention := rfl
@[simp] theorem State.enqueue_timebase (r : WriteRole) (a : DWord) (d : List Byte) : (s.enqueue r a d).timebase = s.timebase := rfl
@[simp] theorem State.enqueue_receiver (r : WriteRole) (a : DWord) (d : List Byte) : (s.enqueue r a d).receiver = s.receiver := rfl
@[simp] theorem State.enqueue_tracker (r : WriteRole) (a : DWord) (d : List Byte) : (s.enqueue r a d).tracker = s.tracker := rfl
@[simp] theorem State.enqueue_plan (r : WriteRole) (a : DWord) (d : List Byte) : (s.enqueue r a d).plan = s.plan := rfl
@[simp] theorem State.enqueue_scanners (r : WriteRole) (a : DWord) (d : List Byte) : (s.enqueue r a d).scanners = s.scanners := rfl
@[simp] theorem State.enqueue_channels (r : WriteRole) (a : DWord) (d : List Byte) : (s.enqueue r a d).channels = s.channels := rfl
@[simp] theorem State.enqueue_allocations (r : WriteRole) (a : DWord) (d : List Byte) : (s.enqueue r a d).allocations = s.allocations := rfl
@[simp] theorem State.enqueue_queue_requests (r : WriteRole) (a : DWord) (d : List Byte) : (s.enqueue r a d).queue.requests = s.queue.requests := rfl
@[simp] theorem State.enqueue_queue_pointer (r : WriteRole) (a : DWord) (d : List Byte) : (s.enqueue r a d).queue.pointer = s.queue.pointer := rfl
@[simp] theorem State.enqueue_port_entries (r : WriteRole) (a : DWord) (d : List Byte) : (s.enqueue r a d).port.entries = s.port.entries := rfl
@[simp] theorem State.enqueue_pending (r : WriteRole) (a : DWord) (d : List Byte) : (s.enqueue r a d).pending = s.pending := rfl

/-! ### dropPort -/

@[simp] theorem State.dropPort_run (n : Nat) : (s.dropPort n).run = s.run := rfl
@[simp] theorem State.dropPort_attention (n : Nat) : (s.dropPort n).attention = s.attention := rfl
@[simp] theorem State.dropPort_timebase (n : Nat) : (s.dropPort n).timebase = s.timebase := rfl
@[simp] theorem State.dropPort_receiver (n : Nat) : (s.dropPort n).receiver = s.receiver := rfl
@[simp] theorem State.dropPort_tracker (n : Nat) : (s.dropPort n).tracker = s.tracker := rfl
@[simp] theorem State.dropPort_plan (n : Nat) : (s.dropPort n).plan = s.plan := rfl
@[simp] theorem State.dropPort_scanners (n : Nat) : (s.dropPort n).scanners = s.scanners := rfl
@[simp] theorem State.dropPort_channels (n : Nat) : (s.dropPort n).channels = s.channels := rfl
@[simp] theorem State.dropPort_allocations (n : Nat) : (s.dropPort n).allocations = s.allocations := rfl
@[simp] theorem State.dropPort_queue (n : Nat) : (s.dropPort n).queue = s.queue := rfl
@[simp] theorem State.dropPort_port_nextTag (n : Nat) : (s.dropPort n).port.nextTag = s.port.nextTag := rfl
@[simp] theorem State.dropPort_pending (n : Nat) : (s.dropPort n).pending = s.pending := rfl

/-! ### dropWrite -/

@[simp] theorem State.dropWrite_run (n : Nat) : (s.dropWrite n).run = s.run := rfl
@[simp] theorem State.dropWrite_attention (n : Nat) : (s.dropWrite n).attention = s.attention := rfl
@[simp] theorem State.dropWrite_timebase (n : Nat) : (s.dropWrite n).timebase = s.timebase := rfl
@[simp] theorem State.dropWrite_receiver (n : Nat) : (s.dropWrite n).receiver = s.receiver := rfl
@[simp] theorem State.dropWrite_tracker (n : Nat) : (s.dropWrite n).tracker = s.tracker := rfl
@[simp] theorem State.dropWrite_plan (n : Nat) : (s.dropWrite n).plan = s.plan := rfl
@[simp] theorem State.dropWrite_scanners (n : Nat) : (s.dropWrite n).scanners = s.scanners := rfl
@[simp] theorem State.dropWrite_channels (n : Nat) : (s.dropWrite n).channels = s.channels := rfl
@[simp] theorem State.dropWrite_allocations (n : Nat) : (s.dropWrite n).allocations = s.allocations := rfl
@[simp] theorem State.dropWrite_queue_requests (n : Nat) : (s.dropWrite n).queue.requests = s.queue.requests := rfl
@[simp] theorem State.dropWrite_queue_pointer (n : Nat) : (s.dropWrite n).queue.pointer = s.queue.pointer := rfl
@[simp] theorem State.dropWrite_port (n : Nat) : (s.dropWrite n).port = s.port := rfl
@[simp] theorem State.dropWrite_pending (n : Nat) : (s.dropWrite n).pending = s.pending := rfl

/-! ### ask -/

@[simp] theorem State.ask_run (r : Request) : (s.ask r).run = s.run := by unfold State.ask; split <;> rfl
@[simp] theorem State.ask_attention (r : Request) : (s.ask r).attention = s.attention := by unfold State.ask; split <;> rfl
@[simp] theorem State.ask_timebase (r : Request) : (s.ask r).timebase = s.timebase := by unfold State.ask; split <;> rfl
@[simp] theorem State.ask_receiver (r : Request) : (s.ask r).receiver = s.receiver := by unfold State.ask; split <;> rfl
@[simp] theorem State.ask_tracker (r : Request) : (s.ask r).tracker = s.tracker := by unfold State.ask; split <;> rfl
@[simp] theorem State.ask_plan (r : Request) : (s.ask r).plan = s.plan := by unfold State.ask; split <;> rfl
@[simp] theorem State.ask_scanners (r : Request) : (s.ask r).scanners = s.scanners := by unfold State.ask; split <;> rfl
@[simp] theorem State.ask_channels (r : Request) : (s.ask r).channels = s.channels := by unfold State.ask; split <;> rfl
@[simp] theorem State.ask_allocations (r : Request) : (s.ask r).allocations = s.allocations := by unfold State.ask; split <;> rfl
@[simp] theorem State.ask_queue_entries (r : Request) : (s.ask r).queue.entries = s.queue.entries := by unfold State.ask; split <;> rfl
@[simp] theorem State.ask_queue_pointer (r : Request) : (s.ask r).queue.pointer = s.queue.pointer := by unfold State.ask; split <;> rfl
@[simp] theorem State.ask_port (r : Request) : (s.ask r).port = s.port := by unfold State.ask; split <;> rfl
@[simp] theorem State.ask_pending (r : Request) : (s.ask r).pending = s.pending := by unfold State.ask; split <;> rfl

/-! ### withdraw -/

@[simp] theorem State.withdraw_run (r : Request) : (s.withdraw r).run = s.run := rfl
@[simp] theorem State.withdraw_attention (r : Request) : (s.withdraw r).attention = s.attention := rfl
@[simp] theorem State.withdraw_timebase (r : Request) : (s.withdraw r).timebase = s.timebase := rfl
@[simp] theorem State.withdraw_receiver (r : Request) : (s.withdraw r).receiver = s.receiver := rfl
@[simp] theorem State.withdraw_tracker (r : Request) : (s.withdraw r).tracker = s.tracker := rfl
@[simp] theorem State.withdraw_plan (r : Request) : (s.withdraw r).plan = s.plan := rfl
@[simp] theorem State.withdraw_scanners (r : Request) : (s.withdraw r).scanners = s.scanners := rfl
@[simp] theorem State.withdraw_channels (r : Request) : (s.withdraw r).channels = s.channels := rfl
@[simp] theorem State.withdraw_allocations (r : Request) : (s.withdraw r).allocations = s.allocations := rfl
@[simp] theorem State.withdraw_queue_entries (r : Request) : (s.withdraw r).queue.entries = s.queue.entries := rfl
@[simp] theorem State.withdraw_queue_pointer (r : Request) : (s.withdraw r).queue.pointer = s.queue.pointer := rfl
@[simp] theorem State.withdraw_port (r : Request) : (s.withdraw r).port = s.port := rfl
@[simp] theorem State.withdraw_pending (r : Request) : (s.withdraw r).pending = s.pending := rfl

/-! ### askFrameRecord -/

@[simp] theorem State.askFrameRecord_run (k : ViewId) (b : List Byte) : (s.askFrameRecord k b).run = s.run := by simp [State.askFrameRecord]
@[simp] theorem State.askFrameRecord_attention (k : ViewId) (b : List Byte) : (s.askFrameRecord k b).attention = s.attention := by simp [State.askFrameRecord]
@[simp] theorem State.askFrameRecord_timebase (k : ViewId) (b : List Byte) : (s.askFrameRecord k b).timebase = s.timebase := by simp [State.askFrameRecord]
@[simp] theorem State.askFrameRecord_receiver (k : ViewId) (b : List Byte) : (s.askFrameRecord k b).receiver = s.receiver := by simp [State.askFrameRecord]
@[simp] theorem State.askFrameRecord_tracker (k : ViewId) (b : List Byte) : (s.askFrameRecord k b).tracker = s.tracker := by simp [State.askFrameRecord]
@[simp] theorem State.askFrameRecord_plan (k : ViewId) (b : List Byte) : (s.askFrameRecord k b).plan = s.plan := by simp [State.askFrameRecord]
@[simp] theorem State.askFrameRecord_scanners (k : ViewId) (b : List Byte) : (s.askFrameRecord k b).scanners = s.scanners := by simp [State.askFrameRecord]
@[simp] theorem State.askFrameRecord_channels (k : ViewId) (b : List Byte) : (s.askFrameRecord k b).channels = s.channels := by simp [State.askFrameRecord]
@[simp] theorem State.askFrameRecord_allocations (k : ViewId) (b : List Byte) : (s.askFrameRecord k b).allocations = s.allocations := by simp [State.askFrameRecord]
@[simp] theorem State.askFrameRecord_queue_entries (k : ViewId) (b : List Byte) : (s.askFrameRecord k b).queue.entries = s.queue.entries := by simp [State.askFrameRecord]
@[simp] theorem State.askFrameRecord_queue_pointer (k : ViewId) (b : List Byte) : (s.askFrameRecord k b).queue.pointer = s.queue.pointer := by simp [State.askFrameRecord]
@[simp] theorem State.askFrameRecord_port (k : ViewId) (b : List Byte) : (s.askFrameRecord k b).port = s.port := by simp [State.askFrameRecord]
@[simp] theorem State.askFrameRecord_pending (k : ViewId) (b : List Byte) : (s.askFrameRecord k b).pending = s.pending := by simp [State.askFrameRecord]

/-! ### Channels and scanners in place -/

@[simp] theorem State.channel_setChannel_same (k : ViewId) (c : Channel) : (s.setChannel k c).channel k = c := by
  simp [State.channel, State.setChannel]

@[simp] theorem State.channel_setChannel_other {j k : ViewId} (h : j ≠ k) (c : Channel) :
    (s.setChannel k c).channel j = s.channel j := by
  have h' : k.val ≠ j.val := fun e => h (Fin.ext e.symm)
  simp [State.channel, State.setChannel, Vector.getElem_set_ne, h']

@[simp] theorem State.channel_setFrame_same (k : ViewId) (v : ViewFrame) :
    (s.setFrame k v).channel k = { s.channel k with frame := some v } := by
  simp [State.setFrame]

@[simp] theorem State.channel_setFrame_other {j k : ViewId} (h : j ≠ k) (v : ViewFrame) :
    (s.setFrame k v).channel j = s.channel j := by
  simp [State.setFrame, h]

@[simp] theorem State.channel_moveChannel_same (k : ViewId) (c : ChannelState) (v : ViewFrame) :
    (s.moveChannel k c v).channel k = { s.channel k with state := c, frame := some v } := by
  simp [State.moveChannel]

@[simp] theorem State.channel_moveChannel_other {j k : ViewId} (h : j ≠ k) (c : ChannelState) (v : ViewFrame) :
    (s.moveChannel k c v).channel j = s.channel j := by
  simp [State.moveChannel, h]

@[simp] theorem State.scanner_setScanner_same (p : PoolId) (x : Scanner) : (s.setScanner p x).scanner p = x := by
  simp [State.scanner, State.setScanner]

@[simp] theorem State.scanner_setScanner_other {p q : PoolId} (h : q ≠ p) (x : Scanner) :
    (s.setScanner p x).scanner q = s.scanner q := by
  have h' : p.val ≠ q.val := fun e => h (Fin.ext e.symm)
  simp [State.scanner, State.setScanner, Vector.getElem_set_ne, h']

/-- A channel is read from the channels alone. -/
theorem State.channel_of_channels {s t : State} (h : t.channels = s.channels) (k : ViewId) : t.channel k = s.channel k := by
  simp [State.channel, h]

/-- A scanner is read from the scanners alone. -/
theorem State.scanner_of_scanners {s t : State} (h : t.scanners = s.scanners) (p : PoolId) : t.scanner p = s.scanner p := by
  simp [State.scanner, h]

@[simp] theorem State.channel_raise (c : AttentionCause) (k' : ViewId) : (s.raise c).channel k' = s.channel k' :=
  State.channel_of_channels (State.raise_channels s c) k'
@[simp] theorem State.scanner_raise (c : AttentionCause) (p' : PoolId) : (s.raise c).scanner p' = s.scanner p' :=
  State.scanner_of_scanners (State.raise_scanners s c) p'
@[simp] theorem State.channel_clearFlags (x : Word) (k' : ViewId) : (s.clearFlags x).channel k' = s.channel k' :=
  State.channel_of_channels (State.clearFlags_channels s x) k'
@[simp] theorem State.scanner_clearFlags (x : Word) (p' : PoolId) : (s.clearFlags x).scanner p' = s.scanner p' :=
  State.scanner_of_scanners (State.clearFlags_scanners s x) p'
@[simp] theorem State.channel_setEnables (x : Word) (k' : ViewId) : (s.setEnables x).channel k' = s.channel k' :=
  State.channel_of_channels (State.setEnables_channels s x) k'
@[simp] theorem State.scanner_setEnables (x : Word) (p' : PoolId) : (s.setEnables x).scanner p' = s.scanner p' :=
  State.scanner_of_scanners (State.setEnables_scanners s x) p'
@[simp] theorem State.channel_setRunState (r : RunState) (k' : ViewId) : (s.setRunState r).channel k' = s.channel k' :=
  State.channel_of_channels (State.setRunState_channels s r) k'
@[simp] theorem State.scanner_setRunState (r : RunState) (p' : PoolId) : (s.setRunState r).scanner p' = s.scanner p' :=
  State.scanner_of_scanners (State.setRunState_scanners s r) p'
@[simp] theorem State.channel_record (r : CommandResult) (k' : ViewId) : (s.record r).channel k' = s.channel k' :=
  State.channel_of_channels (State.record_channels s r) k'
@[simp] theorem State.scanner_record (r : CommandResult) (p' : PoolId) : (s.record r).scanner p' = s.scanner p' :=
  State.scanner_of_scanners (State.record_scanners s r) p'
@[simp] theorem State.channel_setProgress (p : StartProgress) (k' : ViewId) : (s.setProgress p).channel k' = s.channel k' :=
  State.channel_of_channels (State.setProgress_channels s p) k'
@[simp] theorem State.scanner_setProgress (p : StartProgress) (p' : PoolId) : (s.setProgress p).scanner p' = s.scanner p' :=
  State.scanner_of_scanners (State.setProgress_scanners s p) p'
@[simp] theorem State.scanner_setChannel (k : ViewId) (c : Channel) (p' : PoolId) : (s.setChannel k c).scanner p' = s.scanner p' :=
  State.scanner_of_scanners (State.setChannel_scanners s k c) p'
@[simp] theorem State.scanner_setFrame (k : ViewId) (v : ViewFrame) (p' : PoolId) : (s.setFrame k v).scanner p' = s.scanner p' :=
  State.scanner_of_scanners (State.setFrame_scanners s k v) p'
@[simp] theorem State.scanner_moveChannel (k : ViewId) (c : ChannelState) (v : ViewFrame) (p' : PoolId) : (s.moveChannel k c v).scanner p' = s.scanner p' :=
  State.scanner_of_scanners (State.moveChannel_scanners s k c v) p'
@[simp] theorem State.channel_setScanner (p : PoolId) (x : Scanner) (k' : ViewId) : (s.setScanner p x).channel k' = s.channel k' :=
  State.channel_of_channels (State.setScanner_channels s p x) k'
@[simp] theorem State.channel_setTracker (t : Tracker) (k' : ViewId) : (s.setTracker t).channel k' = s.channel k' :=
  State.channel_of_channels (State.setTracker_channels s t) k'
@[simp] theorem State.scanner_setTracker (t : Tracker) (p' : PoolId) : (s.setTracker t).scanner p' = s.scanner p' :=
  State.scanner_of_scanners (State.setTracker_scanners s t) p'
@[simp] theorem State.channel_setReceiver (r : Receiver) (k' : ViewId) : (s.setReceiver r).channel k' = s.channel k' :=
  State.channel_of_channels (State.setReceiver_channels s r) k'
@[simp] theorem State.scanner_setReceiver (r : Receiver) (p' : PoolId) : (s.setReceiver r).scanner p' = s.scanner p' :=
  State.scanner_of_scanners (State.setReceiver_scanners s r) p'
@[simp] theorem State.channel_setPlan (p : PlanUnit) (k' : ViewId) : (s.setPlan p).channel k' = s.channel k' :=
  State.channel_of_channels (State.setPlan_channels s p) k'
@[simp] theorem State.scanner_setPlan (p : PlanUnit) (p' : PoolId) : (s.setPlan p).scanner p' = s.scanner p' :=
  State.scanner_of_scanners (State.setPlan_scanners s p) p'
@[simp] theorem State.channel_issue (r : PortRole) (a : PortAccess) (k' : ViewId) : (s.issue r a).channel k' = s.channel k' :=
  State.channel_of_channels (State.issue_channels s r a) k'
@[simp] theorem State.scanner_issue (r : PortRole) (a : PortAccess) (p' : PoolId) : (s.issue r a).scanner p' = s.scanner p' :=
  State.scanner_of_scanners (State.issue_scanners s r a) p'
@[simp] theorem State.channel_enqueue (r : WriteRole) (a : DWord) (d : List Byte) (k' : ViewId) : (s.enqueue r a d).channel k' = s.channel k' :=
  State.channel_of_channels (State.enqueue_channels s r a d) k'
@[simp] theorem State.scanner_enqueue (r : WriteRole) (a : DWord) (d : List Byte) (p' : PoolId) : (s.enqueue r a d).scanner p' = s.scanner p' :=
  State.scanner_of_scanners (State.enqueue_scanners s r a d) p'
@[simp] theorem State.channel_dropPort (n : Nat) (k' : ViewId) : (s.dropPort n).channel k' = s.channel k' :=
  State.channel_of_channels (State.dropPort_channels s n) k'
@[simp] theorem State.scanner_dropPort (n : Nat) (p' : PoolId) : (s.dropPort n).scanner p' = s.scanner p' :=
  State.scanner_of_scanners (State.dropPort_scanners s n) p'
@[simp] theorem State.channel_dropWrite (n : Nat) (k' : ViewId) : (s.dropWrite n).channel k' = s.channel k' :=
  State.channel_of_channels (State.dropWrite_channels s n) k'
@[simp] theorem State.scanner_dropWrite (n : Nat) (p' : PoolId) : (s.dropWrite n).scanner p' = s.scanner p' :=
  State.scanner_of_scanners (State.dropWrite_scanners s n) p'
@[simp] theorem State.channel_ask (r : Request) (k' : ViewId) : (s.ask r).channel k' = s.channel k' :=
  State.channel_of_channels (State.ask_channels s r) k'
@[simp] theorem State.scanner_ask (r : Request) (p' : PoolId) : (s.ask r).scanner p' = s.scanner p' :=
  State.scanner_of_scanners (State.ask_scanners s r) p'
@[simp] theorem State.channel_withdraw (r : Request) (k' : ViewId) : (s.withdraw r).channel k' = s.channel k' :=
  State.channel_of_channels (State.withdraw_channels s r) k'
@[simp] theorem State.scanner_withdraw (r : Request) (p' : PoolId) : (s.withdraw r).scanner p' = s.scanner p' :=
  State.scanner_of_scanners (State.withdraw_scanners s r) p'
@[simp] theorem State.channel_askFrameRecord (k : ViewId) (b : List Byte) (k' : ViewId) : (s.askFrameRecord k b).channel k' = s.channel k' :=
  State.channel_of_channels (State.askFrameRecord_channels s k b) k'
@[simp] theorem State.scanner_askFrameRecord (k : ViewId) (b : List Byte) (p' : PoolId) : (s.askFrameRecord k b).scanner p' = s.scanner p' :=
  State.scanner_of_scanners (State.askFrameRecord_scanners s k b) p'

/-! ### The port, the bookkeeping request order and halted runs -/

/-- Outside STOPPED and FAULT a transaction issued joins the outstanding ones under the next tag. -/
theorem State.issue_port (r : PortRole) (a : PortAccess) (h : s.halted = false) :
    (s.issue r a).port =
      { entries := s.port.entries ++ [{ tag := s.port.nextTag, role := r, access := a }]
        nextTag := s.port.nextTag + 1 } := by
  simp [State.issue, h]

/-- In STOPPED and FAULT nothing is issued. -/
theorem State.issue_halted (r : PortRole) (a : PortAccess) (h : s.halted = true) : s.issue r a = s := by
  simp [State.issue, h]

/-- An outstanding transaction after an issue was outstanding before or is the one issued. -/
theorem State.mem_issue {r : PortRole} {a : PortAccess} {e : PortEntry} (h : e ∈ (s.issue r a).port.entries) :
    e ∈ s.port.entries ∨ (s.halted = false ∧ e.role = r ∧ e.access = a) := by
  unfold State.issue at h
  split at h
  · exact .inl h
  · rename_i hh
    rcases List.mem_append.mp h with h | h
    · exact .inl h
    · obtain rfl := List.mem_singleton.mp h
      exact .inr ⟨by simpa using hh, rfl, rfl⟩

/-- A request is waiting once it is asked for. -/
theorem State.waitingFor_ask (r : Request) (hr : r.same r = true) : (s.ask r).waitingFor r = true := by
  unfold State.ask
  split
  · assumption
  · simp [State.waitingFor, hr]

@[simp] theorem Request.same_self (r : Request) : r.same r = true := by
  cases r <;> simp [Request.same]

end Sys2Proof.Machine
end

