-- ==== Sys2Proof/Laws/Answers.lean ====
section
/-! SUPPORT. Everything an answer can do: it is delivered in a live run, only counted off in STOPPED and FAULT, and discarded when no
outstanding transaction of its kind has its tag. -/

namespace Sys2Proof.Machine

variable (s : State) {α : Type} {tag : Nat}

theorem State.halted_of_live (h : s.live) : s.halted = false := by simp [State.halted, h.1, h.2]

theorem State.live_of_not_halted (h : s.halted = false) : s.live := by
  simpa [State.halted, State.live] using h

theorem State.portOwner_of_awaits {r : PortRole} (h : s.awaits tag r) (pick : PortRole → Option α) :
    s.portOwner tag pick = pick r := by
  obtain ⟨e, he, hr⟩ := Option.map_eq_some_iff.mp h
  simp [State.portOwner, he, hr]

theorem State.writeOwner_of_awaits {r : WriteRole} (h : s.awaitsWrite tag r) (pick : WriteRole → Option α) :
    s.writeOwner tag pick = pick r := by
  obtain ⟨e, he, hr⟩ := Option.map_eq_some_iff.mp h
  simp [State.writeOwner, he, hr]

/-- In a live run the answer is counted off and delivered. -/
theorem State.answered_live {r : PortRole} {owner : α} {pick : PortRole → Option α} (deliver : α → State → State)
    (h : s.awaits tag r) (hp : pick r = some owner) (hl : s.live) :
    s.answered tag pick deliver = deliver owner (s.dropPort tag) := by
  simp [State.answered, s.portOwner_of_awaits h, hp, s.halted_of_live hl]

/-- In STOPPED and FAULT the answer is only counted off. -/
theorem State.answered_halted {r : PortRole} {owner : α} {pick : PortRole → Option α} (deliver : α → State → State)
    (h : s.awaits tag r) (hp : pick r = some owner) (hl : s.halted = true) :
    s.answered tag pick deliver = s.dropPort tag := by
  simp [State.answered, s.portOwner_of_awaits h, hp, hl]

/-- An answer no outstanding transaction of its kind waits for is discarded. -/
theorem State.answered_unmatched {pick : PortRole → Option α} (deliver : α → State → State)
    (h : s.portOwner tag pick = none) : s.answered tag pick deliver = s := by
  simp [State.answered, h]

theorem State.responded_live {r : WriteRole} {owner : α} {pick : WriteRole → Option α} (deliver : α → State → State)
    (h : s.awaitsWrite tag r) (hp : pick r = some owner) (hl : s.live) :
    s.responded tag pick deliver = deliver owner (s.dropWrite tag) := by
  simp [State.responded, s.writeOwner_of_awaits h, hp, s.halted_of_live hl]

theorem State.responded_halted {r : WriteRole} {owner : α} {pick : WriteRole → Option α} (deliver : α → State → State)
    (h : s.awaitsWrite tag r) (hp : pick r = some owner) (hl : s.halted = true) :
    s.responded tag pick deliver = s.dropWrite tag := by
  simp [State.responded, s.writeOwner_of_awaits h, hp, hl]

theorem State.responded_unmatched {pick : WriteRole → Option α} (deliver : α → State → State)
    (h : s.writeOwner tag pick = none) : s.responded tag pick deliver = s := by
  simp [State.responded, h]

/-- Whatever an answer is delivered to keeps, the answer keeps. -/
theorem State.answered_induct {pick : PortRole → Option α} {deliver : α → State → State} (P : State → Prop)
    (h0 : P s) (h1 : P (s.dropPort tag)) (h2 : ∀ owner, s.halted = false → P (deliver owner (s.dropPort tag))) :
    P (s.answered tag pick deliver) := by
  unfold State.answered
  split
  · exact h0
  · split
    · exact h1
    · exact h2 _ (by simp_all)

theorem State.responded_induct {pick : WriteRole → Option α} {deliver : α → State → State} (P : State → Prop)
    (h0 : P s) (h1 : P (s.dropWrite tag)) (h2 : ∀ owner, s.halted = false → P (deliver owner (s.dropWrite tag))) :
    P (s.responded tag pick deliver) := by
  unfold State.responded
  split
  · exact h0
  · split
    · exact h1
    · exact h2 _ (by simp_all)

/-- The halted-run test does not look at transactions. -/
@[simp] theorem State.dropPort_halted : (s.dropPort tag).halted = s.halted := rfl

@[simp] theorem State.dropWrite_halted : (s.dropWrite tag).halted = s.halted := rfl

/-- A state that answers nothing is changed by no answer (spec 10 R172). -/
theorem State.enterFault_halted : s.enterFault.halted = true := rfl

end Sys2Proof.Machine
end

