-- ==== Sys2Proof/Laws/Blocks.lean ====
section
/-! SUPPORT. What the operations of channels and scanners can touch: one relation, and one lemma for each operation. -/

namespace Sys2Proof.Machine

/-- `t` differs from `s` at most in channels, scanners and waiting requests, in attention flags raised, and in transactions
issued, none of them if the run is STOPPED or in FAULT. -/
structure State.SameBlocks (s t : State) : Prop where
  run : t.run = s.run
  enables : t.attention.enables = s.attention.enables
  timebase : t.timebase = s.timebase
  receiver : t.receiver = s.receiver
  tracker : t.tracker = s.tracker
  plan : t.plan = s.plan
  allocations : t.allocations = s.allocations
  entries : t.queue.entries = s.queue.entries
  pointer : t.queue.pointer = s.queue.pointer
  pending : t.pending = s.pending
  flags : s.attention.flags ||| t.attention.flags = t.attention.flags
  issued : ∃ new, t.port.entries = s.port.entries ++ new
  quiet : s.halted = true → t.port = s.port

namespace State.SameBlocks

theorem refl (s : State) : s.SameBlocks s :=
  ⟨rfl, rfl, rfl, rfl, rfl, rfl, rfl, rfl, rfl, rfl, by simp, ⟨[], by simp⟩, fun _ => rfl⟩

theorem halted {s t : State} (h : s.SameBlocks t) : t.halted = s.halted := by simp [State.halted, h.run]

theorem trans {s t u : State} (h : s.SameBlocks t) (g : t.SameBlocks u) : s.SameBlocks u where
  run := g.run.trans h.run
  enables := g.enables.trans h.enables
  timebase := g.timebase.trans h.timebase
  receiver := g.receiver.trans h.receiver
  tracker := g.tracker.trans h.tracker
  plan := g.plan.trans h.plan
  allocations := g.allocations.trans h.allocations
  entries := g.entries.trans h.entries
  pointer := g.pointer.trans h.pointer
  pending := g.pending.trans h.pending
  flags := by rw [← g.flags, ← BitVec.or_assoc, h.flags]
  issued := by
    obtain ⟨a, ha⟩ := h.issued
    obtain ⟨b, hb⟩ := g.issued
    exact ⟨a ++ b, by rw [hb, ha, List.append_assoc]⟩
  quiet := fun hs => (g.quiet (h.halted.trans hs)).trans (h.quiet hs)

/-- A state that differs only in channels, scanners and requests. -/
theorem of_eq {s t : State} (h1 : t.run = s.run) (h2 : t.attention = s.attention) (h3 : t.timebase = s.timebase)
    (h4 : t.receiver = s.receiver) (h5 : t.tracker = s.tracker) (h6 : t.plan = s.plan) (h7 : t.allocations = s.allocations)
    (h8 : t.queue.entries = s.queue.entries) (h9 : t.queue.pointer = s.queue.pointer) (h10 : t.port = s.port)
    (h11 : t.pending = s.pending) : s.SameBlocks t :=
  ⟨h1, by rw [h2], h3, h4, h5, h6, h7, h8, h9, h11, by simp [h2], ⟨[], by simp [h10]⟩, fun _ => h10⟩

end State.SameBlocks

open State.SameBlocks (refl trans of_eq)

variable (s : State)

/-! ### The setters -/

theorem State.raise_same (c : AttentionCause) : s.SameBlocks (s.raise c) :=
  ⟨rfl, rfl, rfl, rfl, rfl, rfl, rfl, rfl, rfl, rfl, by simp [← BitVec.or_assoc], ⟨[], by simp⟩, fun _ => rfl⟩

theorem State.setChannel_same (k : ViewId) (c : Channel) : s.SameBlocks (s.setChannel k c) :=
  of_eq rfl rfl rfl rfl rfl rfl rfl rfl rfl rfl rfl

theorem State.setFrame_same (k : ViewId) (v : ViewFrame) : s.SameBlocks (s.setFrame k v) := s.setChannel_same k _

theorem State.moveChannel_same (k : ViewId) (c : ChannelState) (v : ViewFrame) : s.SameBlocks (s.moveChannel k c v) :=
  s.setChannel_same k _

theorem State.setScanner_same (p : PoolId) (x : Scanner) : s.SameBlocks (s.setScanner p x) :=
  of_eq rfl rfl rfl rfl rfl rfl rfl rfl rfl rfl rfl

theorem State.ask_same (r : Request) : s.SameBlocks (s.ask r) := by
  unfold State.ask
  split
  · exact refl s
  · exact of_eq rfl rfl rfl rfl rfl rfl rfl rfl rfl rfl rfl

theorem State.withdraw_same (r : Request) : s.SameBlocks (s.withdraw r) :=
  of_eq rfl rfl rfl rfl rfl rfl rfl rfl rfl rfl rfl

theorem State.askFrameRecord_same (k : ViewId) (b : List Byte) : s.SameBlocks (s.askFrameRecord k b) :=
  (s.withdraw_same _).trans (State.ask_same _ _)

theorem State.issue_same (r : PortRole) (a : PortAccess) : s.SameBlocks (s.issue r a) := by
  unfold State.issue
  split
  · exact refl s
  · rename_i h
    exact ⟨rfl, rfl, rfl, rfl, rfl, rfl, rfl, rfl, rfl, rfl, by simp, ⟨_, rfl⟩, fun g => absurd g h⟩

theorem State.exchangeSlot_same (r : PortRole) (slot : Slot) (n : SlotState) : s.SameBlocks (s.exchangeSlot r slot n) :=
  s.issue_same _ _

/-- An operation on a view frame, if there is one, touches what it touches. -/
theorem State.withFrame_same (k : ViewId) (f : ViewFrame → State) (h : ∀ v, (s.channel k).frame = some v → s.SameBlocks (f v)) :
    s.SameBlocks (s.withFrame k f) := by
  unfold State.withFrame
  split
  · exact h _ ‹_›
  · exact refl s

/-- An operation on every view touches what it touches on one. -/
theorem State.eachView_same (f : ViewId → State → State) (h : ∀ k (t : State), t.SameBlocks (f k t)) : s.SameBlocks (s.eachView f) := by
  suffices ∀ (l : List ViewId) (t : State), t.SameBlocks (l.foldl (fun s k => f k s) t) from this _ s
  intro l
  induction l with
  | nil => exact refl
  | cons k l ih => exact fun t => (h k t).trans (ih _)

/-! ### Channels -/

theorem closeFrame_same (k : ViewId) (c : OutcomeClass) (x : OutcomeCause) : s.SameBlocks (closeFrame k c x s) :=
  s.withFrame_same k _ fun _ _ => (s.setChannel_same k _).trans (State.ask_same _ _)

theorem loseSlot_same (k : ViewId) : s.SameBlocks (loseSlot k s) := (s.raise_same _).trans (closeFrame_same _ _ _ _)

theorem issueFirstWrite_same (k : ViewId) : s.SameBlocks (issueFirstWrite k s) := by
  refine s.withFrame_same k _ fun v _ => ?_
  split
  · exact refl s
  · split
    · exact (s.setFrame_same k _).trans (State.exchangeSlot_same _ _ _ _)
    · exact refl s

theorem enterFlushing_same (k : ViewId) : s.SameBlocks (enterFlushing k s) := by
  refine s.withFrame_same k _ fun v _ => ?_
  split
  · exact s.moveChannel_same _ _ _
  · exact refl s

theorem advanceActive_same (k : ViewId) : s.SameBlocks (advanceActive k s) :=
  (issueFirstWrite_same s k).trans (enterFlushing_same _ k)

theorem returnSlot_same (k : ViewId) (v : ViewFrame) : s.SameBlocks (returnSlot k v s) := by
  unfold returnSlot
  dsimp only
  split
  · exact (s.moveChannel_same _ _ _).trans (State.exchangeSlot_same _ _ _ _)
  · exact s.moveChannel_same _ _ _

theorem abandonFrame_same (k : ViewId) (c : OutcomeCause) (t : DWord) : s.SameBlocks (abandonFrame k c t s) := by
  refine s.withFrame_same k _ fun v _ => ?_
  split
  · exact refl s
  · split <;>
      first
        | exact s.moveChannel_same _ _ _
        | exact returnSlot_same _ _ _
        | exact (s.moveChannel_same _ _ _).trans (State.withdraw_same _ _)
        | exact refl s

theorem claimFailed_same (x : OutcomeCause) (k : ViewId) : s.SameBlocks (claimFailed x k s) := by
  refine s.withFrame_same k _ fun v _ => ?_
  split
  · exact refl s
  · split <;>
      first
        | exact ((s.moveChannel_same _ _ _).trans (State.raise_same _ _)).trans (closeFrame_same _ _ _ _)
        | exact (s.setFrame_same _ _).trans (closeFrame_same _ _ _ _)
        | exact refl s

theorem claimSucceeded_same (k : ViewId) (slot : Slot) : s.SameBlocks (claimSucceeded k slot s) := by
  refine s.withFrame_same k _ fun v _ => ?_
  split
  · exact refl s
  · split <;>
      first
        | exact (s.moveChannel_same _ _ _).trans (advanceActive_same _ _)
        | exact returnSlot_same _ _ _
        | exact refl s

theorem queueClaim_same (p : PoolId) (r : ClaimRequest) : s.SameBlocks (queueClaim p r s) := by
  unfold queueClaim
  split
  · exact s.setScanner_same _ _
  · exact claimFailed_same _ _ _

theorem openFrame_same (p : Plan) (d : Descriptor) (z : Sizes) (n : Half) (t : DWord) (b : BankId) (k : ViewId) :
    s.SameBlocks (openFrame p d z n t b k s) :=
  (s.moveChannel_same _ _ _).trans (queueClaim_same _ _ _)

theorem countSkip_same (n : Half) (c : OutcomeCause) (k : ViewId) : s.SameBlocks (countSkip n c k s) := by
  unfold countSkip
  dsimp only
  split
  · exact (s.setChannel_same _ _).trans (State.ask_same _ _)
  · exact s.setChannel_same _ _

theorem overtake_same (t : DWord) (k : ViewId) : s.SameBlocks (overtake t k s) := by
  unfold overtake
  split
  · exact abandonFrame_same _ _ _ _
  · exact refl s

theorem takeDisposition_same (p : Plan) (n : Half) (t : DWord) (b : BankId) (k : ViewId) (x : Disposition) :
    s.SameBlocks (takeDisposition p n t b k x s) := by
  unfold takeDisposition
  split
  · exact refl s
  · exact countSkip_same _ _ _ _
  · split
    · split
      · exact openFrame_same _ _ _ _ _ _ _ _
      · exact refl s
    · exact countSkip_same _ _ _ _

theorem metadataNotice_same (n : Nat) (x : Bool) (k : ViewId) : s.SameBlocks (metadataNotice n x k s) := by
  refine s.withFrame_same k _ fun v _ => ?_
  split
  · exact (s.setFrame_same _ _).trans (advanceActive_same _ _)
  · exact refl s

theorem finalizeGroup_same (t : DWord) (k : ViewId) (v : ViewFrame) : s.SameBlocks (finalizeGroup t k v s) := by
  unfold finalizeGroup
  dsimp only
  split
  · split <;> exact (s.setFrame_same _ _).trans (advanceActive_same _ _)
  · exact (s.setFrame_same _ _).trans (abandonFrame_same _ _ _ _)

theorem rowNotice_same (t : DWord) (row : Nat) (x : Option (List Byte)) (k : ViewId) :
    s.SameBlocks (rowNotice t row x k s) := by
  refine s.withFrame_same k _ fun v _ => ?_
  split
  · split
    · exact refl s
    · split
      · exact (s.setFrame_same _ _).trans (abandonFrame_same _ _ _ _)
      · split
        · exact (s.setFrame_same _ _).trans (finalizeGroup_same _ _ _ _)
        · exact s.setFrame_same _ _
  · exact refl s

theorem truncationNotice_same (c : OutcomeCause) (t : DWord) (k : ViewId) : s.SameBlocks (truncationNotice c t k s) := by
  refine s.withFrame_same k _ fun v _ => ?_
  split
  · exact abandonFrame_same _ _ _ _
  · exact refl s

theorem abortChannel_same (t : DWord) (k : ViewId) : s.SameBlocks (abortChannel t k s) := by
  unfold abortChannel
  split
  · exact abandonFrame_same _ _ _ _
  · exact refl s

theorem cancelCopy_same (b : BankId) (k : ViewId) : s.SameBlocks (cancelCopy b k s) := by
  refine s.withFrame_same k _ fun v _ => ?_
  split
  · exact (s.setFrame_same _ _).trans (State.withdraw_same _ _)
  · exact refl s

theorem enterSealing_same (k : ViewId) : s.SameBlocks (enterSealing k s) := by
  refine s.withFrame_same k _ fun v _ => ?_
  split
  · exact (s.moveChannel_same _ _ _).trans (State.askFrameRecord_same _ _ _)
  · exact refl s

theorem raiseSealed_same (v : ViewFrame) : s.SameBlocks (raiseSealed v s) := by
  unfold raiseSealed
  split
  · exact s.raise_same _
  · split
    · exact s.raise_same _
    · exact refl s

/-- Every answer to a channel but ERROR on its first write stays within the blocks. -/
theorem firstWriteAnswered_same (x : CasAnswer) (hx : x ≠ .error) (k : ViewId) : s.SameBlocks (firstWriteAnswered x k s) := by
  cases x with
  | error => exact absurd rfl hx
  | exchanged =>
    refine s.withFrame_same k _ fun v _ => ?_
    split
    · exact refl s
    · split
      · exact (s.setFrame_same _ _).trans (State.ask_same _ _)
      · exact s.setFrame_same _ _
  | notExchanged =>
    refine s.withFrame_same k _ fun v _ => ?_
    split
    · exact refl s
    · exact (s.moveChannel_same _ _ _).trans (loseSlot_same _ _)

theorem returnAnswered_same (x : CasAnswer) (hx : x ≠ .error) (k : ViewId) : s.SameBlocks (returnAnswered x k s) := by
  cases x with
  | error => exact absurd rfl hx
  | exchanged => exact s.withFrame_same k _ fun v _ => (s.setFrame_same _ _).trans (closeFrame_same _ _ _ _)
  | notExchanged => exact s.withFrame_same k _ fun v _ => (s.setFrame_same _ _).trans (loseSlot_same _ _)

theorem frameRecordAnswered_same (k : ViewId) : s.SameBlocks (frameRecordAnswered .ok k s) := by
  refine s.withFrame_same k _ fun v _ => ?_
  split
  · split
    · exact s.exchangeSlot_same _ _ _
    · exact refl s
  · exact refl s

theorem sealingAnswered_same (x : CasAnswer) (hx : x ≠ .error) (k : ViewId) : s.SameBlocks (sealingAnswered x k s) := by
  cases x with
  | error => exact absurd rfl hx
  | exchanged =>
    exact s.withFrame_same k _ fun v _ =>
      ((raiseSealed_same s v).trans (State.setFrame_same _ _ _)).trans (closeFrame_same _ _ _ _)
  | notExchanged => exact s.withFrame_same k _ fun v _ => (s.setFrame_same _ _).trans (loseSlot_same _ _)

theorem viewTallyAnswered_same (k : ViewId) (closing : Bool) : s.SameBlocks (viewTallyAnswered .ok k closing s) := by
  unfold viewTallyAnswered
  dsimp only
  split
  · exact s.setChannel_same _ _
  · exact refl s

theorem rowAnswered_same (x : WriteAnswer) (k : ViewId) (n i : Nat) : s.SameBlocks (rowAnswered x k n i s) := by
  refine s.withFrame_same k _ fun v _ => ?_
  split
  · exact s.setFrame_same _ _
  · exact (s.setFrame_same _ _).trans (abandonFrame_same _ _ _ _)

theorem copyAnswered_same (x : WriteAnswer) (k : ViewId) (n : Half) : s.SameBlocks (copyAnswered x k n s) := by
  refine s.withFrame_same k _ fun v _ => ?_
  split
  · exact refl s
  · split
    · exact s.setFrame_same _ _
    · exact (s.setFrame_same _ _).trans (abandonFrame_same _ _ _ _)

/-! ### Scanners -/

theorem visitSlot_same (p : PoolId) (x : ClaimService) : s.SameBlocks (visitSlot p x s) :=
  (s.setScanner_same _ _).trans (State.issue_same _ _ _)

theorem startService_same (p : PoolId) : s.SameBlocks (startService p s) := by
  unfold startService
  split
  · exact refl s
  · split
    · exact (s.setScanner_same _ _).trans (visitSlot_same _ _ _)
    · exact refl s

theorem endService_same (p : PoolId) : s.SameBlocks (endService p s) := s.setScanner_same _ _

theorem passSlot_same (p : PoolId) (d : PoolDefinition) (x : ClaimService) : s.SameBlocks (passSlot p d x s) := by
  unfold passSlot
  split
  · exact visitSlot_same _ _ _
  · exact (endService_same s p).trans (claimFailed_same _ _ _)

theorem faultPool_same (p : PoolId) : s.SameBlocks (faultPool p s) := by
  unfold faultPool
  refine ((s.setScanner_same _ _).trans (State.raise_same _ _)).trans (State.eachView_same _ _ fun k t => ?_)
  split
  · exact claimFailed_same _ _ _
  · exact refl t

theorem scannerExchange_same (p : PoolId) (r : PortRole) (x : ClaimService) (d : BitVec 128) (n : SlotState) :
    s.SameBlocks (scannerExchange p r x d n s) :=
  (s.setScanner_same _ _).trans (State.issue_same _ _ _)

theorem State.withService_same (p : PoolId) (f : PoolDefinition → ClaimService → State)
    (h : ∀ d x, s.SameBlocks (f d x)) : s.SameBlocks (s.withService p f) := by
  unfold State.withService
  split
  · exact h _ _
  · exact refl s

theorem slotReadAnswered_same (x : ReadAnswer 128) (p : PoolId) : s.SameBlocks (slotReadAnswered x p s) := by
  unfold slotReadAnswered
  split
  · exact faultPool_same _ _
  · refine s.withService_same p _ fun d y => ?_
    split
    · exact passSlot_same _ _ _ _
    · split <;> exact scannerExchange_same _ _ _ _ _ _

theorem claimAnswered_same (x : CasAnswer) (p : PoolId) : s.SameBlocks (claimAnswered x p s) := by
  unfold claimAnswered
  split
  · exact faultPool_same _ _
  · exact s.withService_same p _ fun d y => passSlot_same _ _ _ _
  · refine s.withService_same p _ fun d y => ?_
    split
    · exact refl s
    · exact (s.setScanner_same _ _).trans (claimSucceeded_same _ _ _)

theorem refusalAnswered_same (x : CasAnswer) (p : PoolId) : s.SameBlocks (refusalAnswered x p s) := by
  unfold refusalAnswered
  split
  · exact faultPool_same _ _
  · exact s.withService_same p _ fun d y => passSlot_same _ _ _ _
  · exact s.withService_same p _ fun d y => (s.raise_same _).trans (passSlot_same _ _ _ _)

/-! ### Notices of the tracker -/

theorem closeMetadata_same : s.SameBlocks (closeMetadata s) := by
  unfold closeMetadata
  split
  · exact s.eachView_same _ fun k t => metadataNotice_same t _ _ k
  · exact refl s

/-- `t` differs from `s` at most in channels, scanners, the write queue and the port, and in attention flags raised. -/
structure State.SameNotices (s t : State) : Prop where
  run : t.run = s.run
  enables : t.attention.enables = s.attention.enables
  timebase : t.timebase = s.timebase
  receiver : t.receiver = s.receiver
  tracker : t.tracker = s.tracker
  plan : t.plan = s.plan
  allocations : t.allocations = s.allocations
  pending : t.pending = s.pending
  flags : s.attention.flags ||| t.attention.flags = t.attention.flags

namespace State.SameNotices

theorem of_same {s t : State} (h : s.SameBlocks t) : s.SameNotices t :=
  ⟨h.run, h.enables, h.timebase, h.receiver, h.tracker, h.plan, h.allocations, h.pending, h.flags⟩

theorem trans {s t u : State} (h : s.SameNotices t) (g : t.SameNotices u) : s.SameNotices u where
  run := g.run.trans h.run
  enables := g.enables.trans h.enables
  timebase := g.timebase.trans h.timebase
  receiver := g.receiver.trans h.receiver
  tracker := g.tracker.trans h.tracker
  plan := g.plan.trans h.plan
  allocations := g.allocations.trans h.allocations
  pending := g.pending.trans h.pending
  flags := by rw [← g.flags, ← BitVec.or_assoc, h.flags]

/-- A state that differs only in channels, scanners, write queue and port. -/
theorem of_queue (s : State) (q : WriteQueue) (p : Port) : s.SameNotices { s with queue := q, port := p } :=
  ⟨rfl, rfl, rfl, rfl, rfl, rfl, rfl, rfl, by simp⟩

end State.SameNotices

open State.SameNotices (of_same of_queue)

theorem State.answered_same {α : Type} {pick : PortRole → Option α} {deliver : α → State → State} (tag : Nat)
    (h : ∀ owner (t : State), s.run = t.run → t.SameNotices (deliver owner t)) : s.SameNotices (s.answered tag pick deliver) := by
  have dropped : s.SameNotices (s.dropPort tag) := of_queue s _ _
  exact s.answered_induct s.SameNotices (of_same (refl s)) dropped fun owner _ => dropped.trans (h owner _ rfl)

theorem State.responded_same {α : Type} {pick : WriteRole → Option α} {deliver : α → State → State} (tag : Nat)
    (h : ∀ owner (t : State), s.run = t.run → t.SameNotices (deliver owner t)) : s.SameNotices (s.responded tag pick deliver) := by
  have dropped : s.SameNotices (s.dropWrite tag) := of_queue s _ _
  exact s.responded_induct s.SameNotices (of_same (refl s)) dropped fun owner _ => dropped.trans (h owner _ rfl)

theorem State.enqueue_same (r : WriteRole) (a : DWord) (d : List Byte) : s.SameNotices (s.enqueue r a d) := of_queue s _ _

theorem admitRequest_same (r : Request) : s.SameNotices (admitRequest r s) := by
  cases r <;> simp only [admitRequest, admitCopy, admitRecord, State.withFrame]
  case metadataCopy k =>
    split
    · split
      · exact (of_same (s.setFrame_same _ _)).trans (State.enqueue_same _ _ _ _)
      · exact of_same (refl s)
    · exact of_same (refl s)
  case frameRecord k b =>
    split
    · split
      · exact s.enqueue_same _ _ _
      · exact of_same (refl s)
    · exact of_same (refl s)
  all_goals exact s.enqueue_same _ _ _

theorem admitRow_same (k : ViewId) : s.SameNotices (admitRow k s) := by
  unfold admitRow State.withFrame
  split
  · dsimp only
    split
    · exact ((of_same (s.setFrame_same _ _)).trans (State.enqueue_same _ _ _ _)).trans (of_queue _ _ _)
    · exact of_same (refl s)
  · exact of_same (refl s)

/-- An admission touches channels, the write queue and the port. -/
theorem admitOne_same : s.SameNotices (admitOne s) := by
  unfold admitOne
  split
  · split
    · exact (of_queue s _ s.port).trans (admitRequest_same _ _)
    · split
      · exact admitRow_same s _
      · exact of_same (refl s)
  · exact of_same (refl s)

theorem casAnswer_ne_error (x : Bool) : casAnswer x ≠ .error := by cases x <;> decide

/-- No step of the memory path between two notices reaches the tracker, the receiver, the plan unit or the run controller. -/
theorem takeMemoryStep_same (x : MemoryStep) : s.SameNotices (takeMemoryStep x s) := by
  unfold takeMemoryStep
  split
  · exact of_same (refl s)
  · rename_i h
    cases x with
    | admission => exact admitOne_same s
    | rowWriteResponse tag a => exact s.responded_same tag fun o t _ => of_same (rowAnswered_same t _ _ _ _)
    | metadataCopyResponse tag a => exact s.responded_same tag fun o t _ => of_same (copyAnswered_same t _ _ _)
    | frameRecordResponse tag => exact s.responded_same tag fun o t _ => of_same (frameRecordAnswered_same t _)
    | viewTallyResponse tag => exact s.responded_same tag fun o t _ => of_same (viewTallyAnswered_same t _ _)
    | linkTallyResponse tag => exact s.responded_same tag fun o t _ => of_same (refl t)
    | adoptionWordResponse tag =>
      refine s.responded_same tag fun o t e => ?_
      have : adoptionWordAnswered .ok t = t := by simp [adoptionWordAnswered, ← e, h]
      rw [this]
      exact of_same (refl t)
    | claimServiceStart p => exact of_same (startService_same s p)
    | slotReadAnswer tag a => exact s.answered_same tag fun o t _ => of_same (slotReadAnswered_same t _ _)
    | claimAnswer tag a => exact s.answered_same tag fun o t _ => of_same (claimAnswered_same t _ _)
    | refusalAnswer tag a => exact s.answered_same tag fun o t _ => of_same (refusalAnswered_same t _ _)
    | firstWriteAnswer tag a =>
      exact s.answered_same tag fun o t _ => of_same (firstWriteAnswered_same t _ (casAnswer_ne_error a) _)
    | returnAnswer tag a => exact s.answered_same tag fun o t _ => of_same (returnAnswered_same t _ (casAnswer_ne_error a) _)
    | sealingAnswer tag a => exact s.answered_same tag fun o t _ => of_same (sealingAnswered_same t _ (casAnswer_ne_error a) _)
    | sealingEntry k => exact of_same (enterSealing_same s k)

theorem takeBetween_same (between : List NoticeStep) (row : Nat) : s.SameNotices (takeBetween between row s) := by
  unfold takeBetween
  generalize between.filter _ = l
  induction l generalizing s with
  | nil => exact of_same (refl s)
  | cons a l ih => exact (takeMemoryStep_same s _).trans (ih _)

/-- With no steps between the notices none is taken. -/
@[simp] theorem takeBetween_nil (row : Nat) : takeBetween [] row s = s := rfl

theorem resolveRow_same (between : List NoticeStep) (x : Option (List Byte)) (row : Nat) :
    s.SameNotices (resolveRow between x row s) :=
  (takeBetween_same s between row).trans (of_same (State.eachView_same _ _ fun k t => rowNotice_same t _ _ _ k))

theorem resolveMissing_same (between : List NoticeStep) (first count : Nat) :
    s.SameNotices (resolveMissing between first count s) := by
  unfold resolveMissing
  generalize List.range' first count = l
  induction l generalizing s with
  | nil => exact of_same (refl s)
  | cons r l ih =>
    rw [List.foldl_cons]
    have h := resolveRow_same s between none r
    generalize resolveRow between none r s = t at h ⊢
    exact h.trans (ih t)

/-- With no steps between them, row notices leave the outstanding writes. -/
theorem resolveRow_nil_same (x : Option (List Byte)) (row : Nat) : s.SameBlocks (resolveRow [] x row s) :=
  State.eachView_same s _ fun k t => rowNotice_same t _ _ _ k

theorem resolveMissing_nil_same (first count : Nat) : s.SameBlocks (resolveMissing [] first count s) := by
  unfold resolveMissing
  generalize List.range' first count = l
  induction l generalizing s with
  | nil => exact refl s
  | cons r l ih =>
    rw [List.foldl_cons]
    have h := resolveRow_nil_same s none r
    generalize resolveRow [] none r s = t at h ⊢
    exact h.trans (ih t)

theorem frameStartNotice_same (gap : Bool) (k : ViewId) : s.SameBlocks (frameStartNotice gap k s) := by
  have h : frameStartNotice gap k s =
      match (overtake s.timebase k s).plan.adopted with
      | some p =>
        takeDisposition p (overtake s.timebase k s).tracker.frameNumber (overtake s.timebase k s).tracker.startTime
          (overtake s.timebase k s).tracker.currentBank k
          (disposition (overtake s.timebase k s).run.state gap p (overtake s.timebase k s).tracker k)
          (overtake s.timebase k s)
      | none => overtake s.timebase k s := rfl
  rw [h]
  have ho := overtake_same s s.timebase k
  generalize overtake s.timebase k s = t at ho ⊢
  cases t.plan.adopted with
  | some p => exact ho.trans (takeDisposition_same _ _ _ _ _ _ _)
  | none => exact ho

theorem raiseMismatch_same (gap : Bool) : s.SameBlocks (raiseMismatch gap s) := by
  unfold raiseMismatch
  split
  · split
    · exact s.raise_same _
    · exact refl s
  · exact refl s

end Sys2Proof.Machine
end

