-- ==== Sys2Proof/Laws/Channels.lean ====
section
/-! SUPPORT. An operation on one channel leaves the other channels, and what an operation on every view makes of each channel. -/

namespace Sys2Proof.Machine

variable (s : State) {j k : ViewId}

theorem State.withFrame_other (f : ViewFrame → State) (h : ∀ v, (s.channel k).frame = some v → (f v).channel j = s.channel j) :
    (s.withFrame k f).channel j = s.channel j := by
  unfold State.withFrame
  split
  · exact h _ ‹_›
  · rfl

@[simp] theorem State.channel_exchangeSlot (r : PortRole) (slot : Slot) (n : SlotState) (i : ViewId) :
    (s.exchangeSlot r slot n).channel i = s.channel i := s.channel_issue _ _ _

/-! ### An operation on one channel leaves the others -/

theorem closeFrame_other (h : j ≠ k) (c : OutcomeClass) (x : OutcomeCause) :
    (closeFrame k c x s).channel j = s.channel j :=
  s.withFrame_other _ fun v _ => by simp [h]

theorem loseSlot_other (h : j ≠ k) : (loseSlot k s).channel j = s.channel j := by
  simp [loseSlot, closeFrame_other _ h]

theorem issueFirstWrite_other (h : j ≠ k) : (issueFirstWrite k s).channel j = s.channel j := by
  refine s.withFrame_other _ fun v _ => ?_
  split
  · rfl
  · split <;> simp [h]

theorem enterFlushing_other (h : j ≠ k) : (enterFlushing k s).channel j = s.channel j := by
  refine s.withFrame_other _ fun v _ => ?_
  split <;> simp [h]

theorem advanceActive_other (h : j ≠ k) : (advanceActive k s).channel j = s.channel j := by
  simp [advanceActive, enterFlushing_other _ h, issueFirstWrite_other _ h]

theorem returnSlot_other (h : j ≠ k) (v : ViewFrame) : (returnSlot k v s).channel j = s.channel j := by
  unfold returnSlot
  dsimp only
  split <;> simp [h]

theorem abandonFrame_other (h : j ≠ k) (c : OutcomeCause) (t : DWord) : (abandonFrame k c t s).channel j = s.channel j := by
  refine s.withFrame_other _ fun v _ => ?_
  split
  · rfl
  · split <;> simp [h, returnSlot_other]

theorem claimFailed_other (h : j ≠ k) (x : OutcomeCause) : (claimFailed x k s).channel j = s.channel j := by
  refine s.withFrame_other _ fun v _ => ?_
  split
  · rfl
  · dsimp only
    split <;> simp [h, closeFrame_other]

theorem claimSucceeded_other (h : j ≠ k) (slot : Slot) : (claimSucceeded k slot s).channel j = s.channel j := by
  refine s.withFrame_other _ fun v _ => ?_
  split
  · rfl
  · dsimp only
    split <;> simp [h, advanceActive_other, returnSlot_other]

theorem queueClaim_other (p : PoolId) (r : ClaimRequest) (h : j ≠ r.view) : (queueClaim p r s).channel j = s.channel j := by
  unfold queueClaim
  split
  · simp
  · exact claimFailed_other _ h _

theorem openFrame_other (h : j ≠ k) (p : Plan) (d : Descriptor) (z : Sizes) (n : Half) (t : DWord) (b : BankId) :
    (openFrame p d z n t b k s).channel j = s.channel j := by
  unfold openFrame
  rw [queueClaim_other _ _ _ h]
  simp [h]

theorem countSkip_other (h : j ≠ k) (n : Half) (c : OutcomeCause) : (countSkip n c k s).channel j = s.channel j := by
  unfold countSkip
  dsimp only
  split <;> simp [h]

theorem overtake_other (h : j ≠ k) (t : DWord) : (overtake t k s).channel j = s.channel j := by
  unfold overtake
  split <;> simp [abandonFrame_other _ h]

theorem takeDisposition_other (h : j ≠ k) (p : Plan) (n : Half) (t : DWord) (b : BankId) (x : Disposition) :
    (takeDisposition p n t b k x s).channel j = s.channel j := by
  unfold takeDisposition
  split
  · rfl
  · exact countSkip_other _ h _ _
  · split
    · split
      · exact openFrame_other _ h _ _ _ _ _ _
      · rfl
    · exact countSkip_other _ h _ _

theorem metadataNotice_other (h : j ≠ k) (n : Nat) (x : Bool) : (metadataNotice n x k s).channel j = s.channel j := by
  refine s.withFrame_other _ fun v _ => ?_
  split <;> simp [h, advanceActive_other]

theorem finalizeGroup_other (h : j ≠ k) (t : DWord) (v : ViewFrame) : (finalizeGroup t k v s).channel j = s.channel j := by
  unfold finalizeGroup
  dsimp only
  split
  · split <;> simp [h, advanceActive_other]
  · simp [h, abandonFrame_other]

theorem rowNotice_other (h : j ≠ k) (t : DWord) (row : Nat) (x : Option (List Byte)) :
    (rowNotice t row x k s).channel j = s.channel j := by
  refine s.withFrame_other _ fun v _ => ?_
  split
  · split
    · rfl
    · split
      · simp [h, abandonFrame_other]
      · split <;> simp [h, finalizeGroup_other]
  · rfl

theorem truncationNotice_other (h : j ≠ k) (c : OutcomeCause) (t : DWord) :
    (truncationNotice c t k s).channel j = s.channel j := by
  refine s.withFrame_other _ fun v _ => ?_
  split <;> simp [h, abandonFrame_other]

theorem abortChannel_other (h : j ≠ k) (t : DWord) : (abortChannel t k s).channel j = s.channel j := by
  unfold abortChannel
  split <;> simp [h, abandonFrame_other]

theorem cancelCopy_other (h : j ≠ k) (b : BankId) : (cancelCopy b k s).channel j = s.channel j := by
  refine s.withFrame_other _ fun v _ => ?_
  split <;> simp [h]

theorem enterSealing_other (h : j ≠ k) : (enterSealing k s).channel j = s.channel j := by
  refine s.withFrame_other _ fun v _ => ?_
  split <;> simp [h]

theorem frameStartNotice_other (h : j ≠ k) (gap : Bool) : (frameStartNotice gap k s).channel j = s.channel j := by
  have ho : (overtake s.timebase k s).channel j = s.channel j := overtake_other s h _
  unfold frameStartNotice
  generalize overtake s.timebase k s = t at ho ⊢
  dsimp only
  cases t.plan.adopted with
  | some p => exact (takeDisposition_other t h _ _ _ _ _).trans ho
  | none => exact ho

theorem firstWriteAnswered_other (h : j ≠ k) (x : CasAnswer) (hx : x ≠ .error) :
    (firstWriteAnswered x k s).channel j = s.channel j := by
  cases x with
  | error => exact absurd rfl hx
  | exchanged =>
    refine s.withFrame_other _ fun v _ => ?_
    split
    · rfl
    · split <;> simp [h]
  | notExchanged =>
    refine s.withFrame_other _ fun v _ => ?_
    split <;> simp [h, loseSlot_other]

theorem returnAnswered_other (h : j ≠ k) (x : CasAnswer) (hx : x ≠ .error) :
    (returnAnswered x k s).channel j = s.channel j := by
  cases x with
  | error => exact absurd rfl hx
  | exchanged => exact s.withFrame_other _ fun v _ => by simp [h, closeFrame_other]
  | notExchanged => exact s.withFrame_other _ fun v _ => by simp [h, loseSlot_other]

theorem sealingAnswered_other (h : j ≠ k) (x : CasAnswer) (hx : x ≠ .error) :
    (sealingAnswered x k s).channel j = s.channel j := by
  cases x with
  | error => exact absurd rfl hx
  | exchanged =>
    refine s.withFrame_other _ fun v _ => ?_
    rw [closeFrame_other _ h, State.channel_setFrame_other _ h]
    unfold raiseSealed
    split
    · simp
    · split <;> simp
  | notExchanged => exact s.withFrame_other _ fun v _ => by simp [h, loseSlot_other]

theorem rowAnswered_other (h : j ≠ k) (x : WriteAnswer) (n i : Nat) : (rowAnswered x k n i s).channel j = s.channel j := by
  refine s.withFrame_other _ fun v _ => ?_
  split <;> simp [h, abandonFrame_other]

theorem copyAnswered_other (h : j ≠ k) (x : WriteAnswer) (n : Half) : (copyAnswered x k n s).channel j = s.channel j := by
  refine s.withFrame_other _ fun v _ => ?_
  split
  · rfl
  · split <;> simp [h, abandonFrame_other]

/-! ### An operation on every view -/

theorem mem_allViews (k : ViewId) : k ∈ allViews := by
  revert k
  decide

/-- An operation on every view makes of channel k what it makes of it in a state reached from `s` by its other views, where the
channel still stands as in `s`. -/
theorem State.eachView_channel (f : ViewId → State → State) (R : State → State → Prop) (hrefl : ∀ t, R t t)
    (htrans : ∀ a b c, R a b → R b c → R a c) (hR : ∀ i t, R t (f i t))
    (hf : ∀ (i j : ViewId) (t : State), j ≠ i → (f i t).channel j = t.channel j) (k : ViewId) :
    ∃ t, R s t ∧ t.channel k = s.channel k ∧ R (f k t) (s.eachView f)
      ∧ (s.eachView f).channel k = (f k t).channel k := by
  have spare : ∀ (l : List ViewId) (t : State), k ∉ l →
      R t (l.foldl (fun s i => f i s) t) ∧ (l.foldl (fun s i => f i s) t).channel k = t.channel k := by
    intro l
    induction l with
    | nil => exact fun t _ => ⟨hrefl t, rfl⟩
    | cons i l ih =>
      intro t hk
      have hi : k ≠ i := fun e => hk (e ▸ List.mem_cons_self)
      obtain ⟨h1, h2⟩ := ih (f i t) fun e => hk (List.mem_cons_of_mem _ e)
      exact ⟨htrans _ _ _ (hR i t) h1, h2.trans (hf i k t hi)⟩
  have main : ∀ (l : List ViewId) (t : State), l.Nodup → k ∈ l →
      ∃ u, R t u ∧ u.channel k = t.channel k ∧ R (f k u) (l.foldl (fun s i => f i s) t)
        ∧ (l.foldl (fun s i => f i s) t).channel k = (f k u).channel k := by
    intro l
    induction l with
    | nil => exact fun t _ h => absurd h (by simp)
    | cons i l ih =>
      intro t hn hk
      rw [List.nodup_cons] at hn
      by_cases e : k = i
      · subst e
        obtain ⟨h1, h2⟩ := spare l (f k t) hn.1
        exact ⟨t, hrefl t, rfl, h1, h2⟩
      · obtain ⟨u, h1, h2, h3, h4⟩ := ih (f i t) hn.2 ((List.mem_cons.mp hk).resolve_left e)
        exact ⟨u, htrans _ _ _ (hR i t) h1, h2.trans (hf i k t e), h3, h4⟩
  exact main allViews s (by decide) (mem_allViews k)

/-- The same with what channels and scanners can touch as the relation. -/
theorem State.eachView_at (f : ViewId → State → State) (hR : ∀ i t, State.SameBlocks t (f i t))
    (hf : ∀ (i j : ViewId) (t : State), j ≠ i → (f i t).channel j = t.channel j) (k : ViewId) :
    ∃ t, s.SameBlocks t ∧ t.channel k = s.channel k ∧ (f k t).SameBlocks (s.eachView f)
      ∧ (s.eachView f).channel k = (f k t).channel k :=
  s.eachView_channel f State.SameBlocks State.SameBlocks.refl (fun _ _ _ => State.SameBlocks.trans) hR hf k

/-! ### What becomes of a channel -/

/-- The closing step: the outcome counted, the line memory released, the state kept. -/
theorem closeFrame_channel (c : OutcomeClass) (x : OutcomeCause) (v : ViewFrame) (h : (s.channel k).frame = some v) :
    (closeFrame k c x s).channel k =
      { s.channel k with
        frame := some { v with accumulator := [], present := [], staging := [], closing := true }
        tally := (s.channel k).tally.count v.frameNumber c x } := by
  simp [closeFrame, State.withFrame, h, ViewFrame.discarded]

/-- An abandoning event in CLAIMING. -/
theorem abandonFrame_claiming (c : OutcomeCause) (t : DWord) (v : ViewFrame) (hs : (s.channel k).state = .claiming)
    (h : (s.channel k).frame = some v) (ha : v.abandoned = none) :
    (abandonFrame k c t s).channel k = { s.channel k with state := .returning, frame := some (v.mark c t).dropped } := by
  simp [abandonFrame, State.withFrame, h, ha, hs]

/-- An abandoning event in ACTIVE. -/
theorem abandonFrame_active (c : OutcomeCause) (t : DWord) (v : ViewFrame) (hs : (s.channel k).state = .active)
    (h : (s.channel k).frame = some v) (ha : v.abandoned = none) :
    (abandonFrame k c t s).channel k =
      match v.firstWrite with
      | .notIssued => { s.channel k with state := .returning, frame := some (v.mark c t).dropped }
      | .outstanding => { s.channel k with state := .flushing, frame := some (v.mark c t).dropped }
      | .exchanged => { s.channel k with state := .flushing, frame := some (v.mark c t).withdrawn } := by
  cases hf : v.firstWrite <;> simp [abandonFrame, State.withFrame, h, ha, hs, hf, returnSlot]
  split <;> simp

/-- An abandoning event has no effect on a view frame already abandoned. -/
theorem abandonFrame_abandoned (c : OutcomeCause) (t : DWord) (v : ViewFrame) (h : (s.channel k).frame = some v)
    (ha : v.abandoned ≠ none) : abandonFrame k c t s = s := by
  cases hv : v.abandoned with
  | none => exact absurd hv ha
  | some _ => simp [abandonFrame, State.withFrame, h, hv]

end Sys2Proof.Machine
end

