-- ==== Sys2Proof/Laws/Frames.lean ====
section
/-! SUPPORT. What the plan unit and the frame tracker can touch, and what each event makes of the tracker. -/

namespace Sys2Proof.Machine

/-- `t` differs from `s` at most in tracker, plan unit, line memory allocations, channels, scanners and waiting requests, in
attention flags raised, and in transactions issued, none of them if the run is STOPPED or in FAULT. -/
structure State.SameRun (s t : State) : Prop where
  run : t.run = s.run
  enables : t.attention.enables = s.attention.enables
  timebase : t.timebase = s.timebase
  receiver : t.receiver = s.receiver
  entries : t.queue.entries = s.queue.entries
  pointer : t.queue.pointer = s.queue.pointer
  pending : t.pending = s.pending
  flags : s.attention.flags ||| t.attention.flags = t.attention.flags
  issued : ∃ new, t.port.entries = s.port.entries ++ new
  quiet : s.halted = true → t.port = s.port

theorem State.SameBlocks.sameRun {s t : State} (h : s.SameBlocks t) : s.SameRun t :=
  ⟨h.run, h.enables, h.timebase, h.receiver, h.entries, h.pointer, h.pending, h.flags, h.issued, h.quiet⟩

namespace State.SameRun

theorem refl (s : State) : s.SameRun s := (State.SameBlocks.refl s).sameRun

theorem halted {s t : State} (h : s.SameRun t) : t.halted = s.halted := by simp [State.halted, h.run]

theorem trans {s t u : State} (h : s.SameRun t) (g : t.SameRun u) : s.SameRun u where
  run := g.run.trans h.run
  enables := g.enables.trans h.enables
  timebase := g.timebase.trans h.timebase
  receiver := g.receiver.trans h.receiver
  entries := g.entries.trans h.entries
  pointer := g.pointer.trans h.pointer
  pending := g.pending.trans h.pending
  flags := by rw [← g.flags, ← BitVec.or_assoc, h.flags]
  issued := by
    obtain ⟨a, ha⟩ := h.issued
    obtain ⟨b, hb⟩ := g.issued
    exact ⟨a ++ b, by rw [hb, ha, List.append_assoc]⟩
  quiet := fun hs => (g.quiet (h.halted.trans hs)).trans (h.quiet hs)

end State.SameRun

/-- `t` differs from `s` at most in tracker, plan unit, line memory allocations, channels, scanners, write queue and port, and in attention
flags raised: what an event of a frame reaches with the steps of the memory path taken between its notices. -/
structure State.SameEvent (s t : State) : Prop where
  run : t.run = s.run
  enables : t.attention.enables = s.attention.enables
  timebase : t.timebase = s.timebase
  receiver : t.receiver = s.receiver
  pending : t.pending = s.pending
  flags : s.attention.flags ||| t.attention.flags = t.attention.flags

theorem State.SameRun.sameEvent {s t : State} (h : s.SameRun t) : s.SameEvent t :=
  ⟨h.run, h.enables, h.timebase, h.receiver, h.pending, h.flags⟩

theorem State.SameNotices.sameEvent {s t : State} (h : s.SameNotices t) : s.SameEvent t :=
  ⟨h.run, h.enables, h.timebase, h.receiver, h.pending, h.flags⟩

theorem State.SameEvent.trans {s t u : State} (h : s.SameEvent t) (g : t.SameEvent u) : s.SameEvent u where
  run := g.run.trans h.run
  enables := g.enables.trans h.enables
  timebase := g.timebase.trans h.timebase
  receiver := g.receiver.trans h.receiver
  pending := g.pending.trans h.pending
  flags := by rw [← g.flags, ← BitVec.or_assoc, h.flags]

open State.SameRun (refl)

variable (s : State)

theorem State.setTracker_sameRun (t : Tracker) : s.SameRun (s.setTracker t) :=
  ⟨rfl, rfl, rfl, rfl, rfl, rfl, rfl, by simp, ⟨[], by simp⟩, fun _ => rfl⟩

theorem State.setPlan_sameRun (p : PlanUnit) : s.SameRun (s.setPlan p) :=
  ⟨rfl, rfl, rfl, rfl, rfl, rfl, rfl, by simp, ⟨[], by simp⟩, fun _ => rfl⟩

/-! ### The plan unit -/

theorem quietFetch_sameRun : s.SameRun s.quietFetch := s.setPlan_sameRun _

theorem discardCandidate_sameRun : s.SameRun (discardCandidate s) := by
  unfold discardCandidate
  split
  · exact refl s
  · exact (s.setPlan_sameRun _).trans (State.ask_same _ _).sameRun

theorem reportRejection_sameRun (q : Word) (r : Reason) (v : Byte) : s.SameRun (reportRejection q r v s) :=
  ((s.setPlan_sameRun _).trans (State.ask_same _ _).sameRun).trans (State.raise_same _ _).sameRun

theorem readSelector_sameRun (r : PortRole) : s.SameRun (readSelector r s) :=
  (s.setPlan_sameRun _).trans (State.issue_same _ _ _).sameRun

theorem readPage_sameRun (r : PortRole) (x : Selector) : s.SameRun (readPage r x s) :=
  (s.setPlan_sameRun _).trans (State.issue_same _ _ _).sameRun

theorem adoptPlan_sameRun (p : Plan) (n : Word) : s.SameRun (adoptPlan p n s) := by
  refine State.SameRun.trans ?_ (State.raise_same _ _).sameRun
  refine State.SameRun.trans ?_ (State.ask_same _ _).sameRun
  exact ⟨rfl, rfl, rfl, rfl, rfl, rfl, rfl, by simp, ⟨[], by simp⟩, fun _ => rfl⟩

theorem frameEndFetch_sameRun : s.SameRun (frameEndFetch s) := by
  unfold frameEndFetch
  split
  · exact readSelector_sameRun s _
  · exact refl s

theorem planFrameStart_sameRun (n : Half) : s.SameRun (planFrameStart n s) := by
  unfold planFrameStart
  split
  · exact refl s
  · split
    · exact refl s
    · split
      · exact adoptPlan_sameRun s _ _
      · exact ((s.setPlan_sameRun _).trans (State.ask_same _ _).sameRun).trans (State.raise_same _ _).sameRun

theorem selectorAnswered_sameRun (x : ReadAnswer 64) : s.SameRun (selectorAnswered x s) := by
  unfold selectorAnswered
  split
  · exact quietFetch_sameRun s
  · split
    · exact (quietFetch_sameRun s).trans (reportRejection_sameRun _ _ _ _)
    · unfold takeSelector
      split
      · exact (quietFetch_sameRun s).trans (discardCandidate_sameRun _)
      · split
        · exact quietFetch_sameRun s
        · split
          · exact (quietFetch_sameRun s).trans (discardCandidate_sameRun _)
          · split
            · exact readPage_sameRun s _ _
            · exact ((quietFetch_sameRun s).trans (discardCandidate_sameRun _)).trans (reportRejection_sameRun _ _ _ _)

theorem pageAnswered_sameRun (x : ReadAnswer 8192) : s.SameRun (pageAnswered x s) := by
  unfold pageAnswered
  split
  · exact quietFetch_sameRun s
  · split
    · exact ((quietFetch_sameRun s).trans (discardCandidate_sameRun _)).trans (State.setPlan_sameRun _ _)
    · unfold rejectPage
      split
      · exact ((quietFetch_sameRun s).trans (discardCandidate_sameRun _)).trans (reportRejection_sameRun _ _ _ _)
      · exact (quietFetch_sameRun s).trans (reportRejection_sameRun _ _ _ _)

/-! ### The tracker is the plan unit's neighbour -/

@[simp] theorem discardCandidate_tracker : (discardCandidate s).tracker = s.tracker := by
  unfold discardCandidate
  split <;> simp

@[simp] theorem frameEndFetch_tracker : (frameEndFetch s).tracker = s.tracker := by
  unfold frameEndFetch readSelector
  split <;> simp

@[simp] theorem planFrameStart_tracker (n : Half) : (planFrameStart n s).tracker = s.tracker := by
  unfold planFrameStart adoptPlan
  split
  · rfl
  · split
    · rfl
    · split <;> simp

@[simp] theorem selectorAnswered_tracker (x : ReadAnswer 64) : (selectorAnswered x s).tracker = s.tracker := by
  unfold selectorAnswered takeSelector
  split
  · rfl
  · split
    · simp [State.quietFetch, reportRejection]
    · split
      · simp [State.quietFetch]
      · split
        · rfl
        · split
          · simp [State.quietFetch]
          · split
            · simp [readPage]
            · simp [State.quietFetch, reportRejection]

@[simp] theorem pageAnswered_tracker (x : ReadAnswer 8192) : (pageAnswered x s).tracker = s.tracker := by
  unfold pageAnswered
  split
  · rfl
  · split
    · simp [makeCandidate, State.quietFetch]
    · unfold rejectPage
      split <;> simp [State.quietFetch, reportRejection]

/-! ### The frame tracker -/

theorem restartDeadline_sameRun : s.SameRun (restartDeadline s) := by
  unfold restartDeadline
  split
  · exact s.setTracker_sameRun _
  · exact refl s

theorem announceEnd_sameRun : s.SameRun (announceEnd s) :=
  (s.ask_same _).sameRun.trans (frameEndFetch_sameRun _)

@[simp] theorem announceEnd_tracker : (announceEnd s).tracker = s.tracker := by simp [announceEnd]

theorem takeMetaRow_sameRun (x : List Byte) : s.SameRun (takeMetaRow x s) := by
  unfold takeMetaRow
  split
  · exact s.setTracker_sameRun _
  · exact (s.setTracker_sameRun _).trans (restartDeadline_sameRun _)
  · split <;> exact (s.setTracker_sameRun _).trans (restartDeadline_sameRun _)

theorem truncateFrame_sameRun (c : OutcomeCause) : s.SameRun (truncateFrame c s) := by
  unfold truncateFrame
  split
  · exact refl s
  · have h1 := (closeMetadata_same s).sameRun
    generalize closeMetadata s = t at h1 ⊢
    refine State.SameRun.trans ?_ (announceEnd_sameRun _)
    refine State.SameRun.trans ?_ (State.eachView_same _ _ fun k u => truncationNotice_same u _ _ k).sameRun
    exact h1.trans (t.setTracker_sameRun _)

/-- A truncation makes the tracker IDLE and counts it; out of frame it changes nothing. -/
theorem truncateFrame_tracker (c : OutcomeCause) :
    (truncateFrame c s).tracker =
      if s.tracker.state = .idle then s.tracker
      else
        { s.tracker with
          state := .idle
          deadline := none
          framesTruncated := s.tracker.framesTruncated + 1
          gapTimeouts := if c = .gapTimeout then s.tracker.gapTimeouts + 1 else s.tracker.gapTimeouts } := by
  unfold truncateFrame
  split
  · rfl
  · have h1 := (closeMetadata_same s).tracker
    generalize closeMetadata s = t at h1 ⊢
    dsimp only
    rw [announceEnd_tracker, (State.eachView_same _ _ fun k u => truncationNotice_same u _ _ k).tracker,
      State.setTracker_tracker_new, h1]

theorem takeFrameEnd_sameEvent (between : List NoticeStep) (n : Half) : s.SameEvent (takeFrameEnd between n s) := by
  unfold takeFrameEnd
  split
  · exact (s.setTracker_sameRun _).sameEvent
  · have h1 := (closeMetadata_same s).sameRun
    generalize closeMetadata s = t at h1 ⊢
    dsimp only
    have h2 := (resolveMissing_same t between t.tracker.nextRow (t.tracker.height.toNat - t.tracker.nextRow)).sameEvent
    generalize resolveMissing between t.tracker.nextRow (t.tracker.height.toNat - t.tracker.nextRow) t = u at h2 ⊢
    exact (h1.sameEvent.trans h2).trans ((u.setTracker_sameRun _).trans (announceEnd_sameRun _)).sameEvent

/-- A FRAME_END with no step between its notices. -/
theorem takeFrameEnd_sameRun (n : Half) : s.SameRun (takeFrameEnd [] n s) := by
  unfold takeFrameEnd
  split
  · exact s.setTracker_sameRun _
  · have h1 := (closeMetadata_same s).sameRun
    generalize closeMetadata s = t at h1 ⊢
    dsimp only
    have h2 := (resolveMissing_nil_same t t.tracker.nextRow (t.tracker.height.toNat - t.tracker.nextRow)).sameRun
    generalize resolveMissing [] t.tracker.nextRow (t.tracker.height.toNat - t.tracker.nextRow) t = u at h2 ⊢
    exact ((h1.trans h2).trans (u.setTracker_sameRun _)).trans (announceEnd_sameRun _)

/-- What a FRAME_END makes of the tracker. -/
theorem takeFrameEnd_tracker (between : List NoticeStep) (n : Half) :
    (takeFrameEnd between n s).tracker =
      if s.tracker.state = .idle then { s.tracker with strayPackets := s.tracker.strayPackets + 1 }
      else
        { s.tracker with
          state := .idle
          deadline := none
          nextRow := s.tracker.height.toNat
          framesEnded := s.tracker.framesEnded + 1
          orderErrors :=
            if n = s.tracker.frameNumber then s.tracker.orderErrors else s.tracker.orderErrors + 1 } := by
  unfold takeFrameEnd
  split
  · rfl
  · have h1 := (closeMetadata_same s).tracker
    generalize closeMetadata s = t at h1 ⊢
    dsimp only
    have h2 := (resolveMissing_same t between t.tracker.nextRow (t.tracker.height.toNat - t.tracker.nextRow)).tracker
    generalize resolveMissing between t.tracker.nextRow (t.tracker.height.toNat - t.tracker.nextRow) t = u at h2 ⊢
    rw [announceEnd_tracker, State.setTracker_tracker_new, h2, h1]

theorem takePixelRow_sameEvent (between : List NoticeStep) (row : Nat) (x : List Byte) :
    s.SameEvent (takePixelRow between row x s) := by
  unfold takePixelRow
  split
  · exact (s.setTracker_sameRun _).sameEvent
  · have h1 := (closeMetadata_same s).sameRun
    generalize closeMetadata s = t at h1 ⊢
    dsimp only
    have h2 := h1.trans ((t.setTracker_sameRun { t.tracker with state := .body }).trans (restartDeadline_sameRun _))
    generalize restartDeadline (t.setTracker { t.tracker with state := .body }) = u at h2 ⊢
    split
    · exact (h2.trans (u.setTracker_sameRun _)).sameEvent
    · have h3 := h2.sameEvent.trans (resolveMissing_same u between u.tracker.nextRow (row - u.tracker.nextRow)).sameEvent
      generalize resolveMissing between u.tracker.nextRow (row - u.tracker.nextRow) u = w at h3 ⊢
      have h4 := h3.trans (resolveRow_same w between (some x) row).sameEvent
      generalize resolveRow between (some x) row w = z at h4 ⊢
      exact h4.trans (z.setTracker_sameRun _).sameEvent

/-- A PIXEL_ROW with no step between its notices. -/
theorem takePixelRow_sameRun (row : Nat) (x : List Byte) : s.SameRun (takePixelRow [] row x s) := by
  unfold takePixelRow
  split
  · exact s.setTracker_sameRun _
  · have h1 := (closeMetadata_same s).sameRun
    generalize closeMetadata s = t at h1 ⊢
    dsimp only
    have h2 := h1.trans ((t.setTracker_sameRun { t.tracker with state := .body }).trans (restartDeadline_sameRun _))
    generalize restartDeadline (t.setTracker { t.tracker with state := .body }) = u at h2 ⊢
    split
    · exact h2.trans (u.setTracker_sameRun _)
    · have h3 := h2.trans (resolveMissing_nil_same u u.tracker.nextRow (row - u.tracker.nextRow)).sameRun
      generalize resolveMissing [] u.tracker.nextRow (row - u.tracker.nextRow) u = w at h3 ⊢
      have h4 := h3.trans (resolveRow_nil_same w (some x) row).sameRun
      generalize resolveRow [] (some x) row w = z at h4 ⊢
      exact h4.trans (z.setTracker_sameRun _)

/-- The deadline an item sets. -/
theorem restartDeadline_tracker :
    (restartDeadline s).tracker =
      if s.tracker.state = .idle then s.tracker
      else { s.tracker with deadline := deadlineFrom s.timebase s.tracker.gapLimit } := by
  unfold restartDeadline State.inFrame
  cases h : s.tracker.state <;> simp [h]

/-- What a PIXEL_ROW makes of the tracker. -/
theorem takePixelRow_tracker (between : List NoticeStep) (row : Nat) (x : List Byte) :
    (takePixelRow between row x s).tracker =
      if s.tracker.state = .idle then { s.tracker with strayPackets := s.tracker.strayPackets + 1 }
      else
        { s.tracker with
          state := .body
          deadline := deadlineFrom s.timebase s.tracker.gapLimit
          nextRow := if row < s.tracker.nextRow ∨ s.tracker.height.toNat ≤ row then s.tracker.nextRow else row + 1
          orderErrors :=
            if row < s.tracker.nextRow ∨ s.tracker.height.toNat ≤ row then s.tracker.orderErrors + 1
            else s.tracker.orderErrors } := by
  unfold takePixelRow
  split
  · rfl
  · have h1 := closeMetadata_same s
    generalize closeMetadata s = t at h1 ⊢
    dsimp only
    have h2 : (restartDeadline (t.setTracker { t.tracker with state := .body })).tracker =
        { s.tracker with state := .body, deadline := deadlineFrom s.timebase s.tracker.gapLimit } := by
      rw [restartDeadline_tracker]
      simp [h1.tracker, h1.timebase]
    generalize restartDeadline (t.setTracker { t.tracker with state := .body }) = u at h2 ⊢
    have e1 : u.tracker.nextRow = s.tracker.nextRow := by rw [h2]
    have e2 : u.tracker.height = s.tracker.height := by rw [h2]
    rw [e1, e2]
    split
    · simp [h2]
    · have h3 := (resolveMissing_same u between s.tracker.nextRow (row - s.tracker.nextRow)).tracker
      generalize resolveMissing between s.tracker.nextRow (row - s.tracker.nextRow) u = w at h3 ⊢
      have h4 := (resolveRow_same w between (some x) row).tracker
      generalize resolveRow between (some x) row w = z at h4 ⊢
      simp [h4, h3, h2]

theorem beginFrame_sameRun (n w h : Half) (d : Byte) : s.SameRun (beginFrame n w h d s) := by
  unfold beginFrame
  exact (State.eachView_same _ _ fun k u => cancelCopy_same u _ k).sameRun.trans (State.setTracker_sameRun _ _)

theorem armGap_sameRun : s.SameRun (armGap s) := s.setTracker_sameRun _

theorem takeFrameStart_sameRun (n w h : Half) (d : Byte) : s.SameRun (takeFrameStart n w h d s) := by
  unfold takeFrameStart
  have h1 := truncateFrame_sameRun s .truncated
  generalize truncateFrame .truncated s = t at h1 ⊢
  dsimp only
  have h2 := h1.trans (beginFrame_sameRun t n w h d)
  generalize beginFrame n w h d t = u at h2 ⊢
  have h3 := (h2.trans (planFrameStart_sameRun u n)).trans (armGap_sameRun _)
  generalize armGap (planFrameStart n u) = x at h3 ⊢
  have h4 := h3.trans (raiseMismatch_same x u.adoptionGap).sameRun
  generalize raiseMismatch u.adoptionGap x = y at h4 ⊢
  exact h4.trans (State.eachView_same _ _ fun k z => frameStartNotice_same z _ k).sameRun

/-- What a FRAME_START makes of the tracker, but for the gap limit and deadline, which follow the plan in force after it. -/
theorem takeFrameStart_tracker (n w h : Half) (d : Byte) :
    ∃ (limit : Word) (deadline : Option DWord),
      deadline = deadlineFrom s.timebase limit
      ∧ (takeFrameStart n w h d s).tracker =
        { s.tracker with
          state := .header
          frameNumber := n
          width := w
          height := h
          depth := d
          nextRow := 0
          deadline := deadline
          gapLimit := limit
          startTime := s.timebase
          banks := s.tracker.banks.set (otherBank s.tracker.currentBank) Bank.empty
          currentBank := otherBank s.tracker.currentBank
          framesStarted := s.tracker.framesStarted + 1
          framesTruncated := s.tracker.framesTruncated + (if s.tracker.state = .idle then 0 else 1) } := by
  unfold takeFrameStart
  have h1 := truncateFrame_tracker s .truncated
  have h1' := (truncateFrame_sameRun s .truncated).timebase
  generalize truncateFrame .truncated s = t at h1 h1' ⊢
  dsimp only
  have h2 : (beginFrame n w h d t).tracker =
      { t.tracker with
        state := .header, frameNumber := n, width := w, height := h, depth := d, startTime := t.timebase, nextRow := 0,
        currentBank := otherBank t.tracker.currentBank,
        banks := t.tracker.banks.set (otherBank t.tracker.currentBank) Bank.empty,
        framesStarted := t.tracker.framesStarted + 1 } := by
    unfold beginFrame
    dsimp only
    rw [State.setTracker_tracker_new]
    have e := State.eachView_same t (cancelCopy (otherBank t.tracker.currentBank)) fun k u => cancelCopy_same u _ k
    rw [e.tracker, e.timebase]
  generalize beginFrame n w h d t = u at h2 ⊢
  have h3 : (armGap (planFrameStart n u)).tracker =
      { u.tracker with
        gapLimit := (planFrameStart n u).plan.gapLimit
        deadline := deadlineFrom u.tracker.startTime (planFrameStart n u).plan.gapLimit } := by
    simp [armGap]
  generalize hg : (planFrameStart n u).plan.gapLimit = g at h3
  refine ⟨g, _, rfl, ?_⟩
  generalize armGap (planFrameStart n u) = x at h3 ⊢
  have h4 := (raiseMismatch_same x u.adoptionGap).tracker
  generalize raiseMismatch u.adoptionGap x = y at h4 ⊢
  rw [(State.eachView_same y _ fun k z => frameStartNotice_same z _ k).tracker, h4, h3, h2]
  by_cases hi : s.tracker.state = .idle <;> simp [h1, hi, h1']

/-- What a packet passed on can touch. -/
theorem passPacket_sameEvent (between : List NoticeStep) (h : BitVec 64) (x : List Byte) :
    s.SameEvent (passPacket between h x s) := by
  unfold passPacket
  split
  · exact (takeFrameStart_sameRun s _ _ _ _).sameEvent
  · exact (takeMetaRow_sameRun s _).sameEvent
  · exact takePixelRow_sameEvent s _ _ _
  · exact takeFrameEnd_sameEvent s _ _
  · exact (refl s).sameEvent
  · exact (refl s).sameEvent

theorem passPacket_sameRun (h : BitVec 64) (x : List Byte) : s.SameRun (passPacket [] h x s) := by
  unfold passPacket
  split
  · exact takeFrameStart_sameRun s _ _ _ _
  · exact takeMetaRow_sameRun s _
  · exact takePixelRow_sameRun s _ _
  · exact takeFrameEnd_sameRun s _
  · exact refl s
  · exact refl s

end Sys2Proof.Machine
end

