-- ==== Sys2Proof/Laws/Link.lean ====
section
/-! SUPPORT. The link receiver in the words of the statements: what the lanes hold, when an extent or a boundary is reached, where the
alignment word stands, and when a packet is complete. -/

namespace Sys2Proof.Machine

/-! ### Bytes that arrive -/

@[simp] theorem perLane_getElem {α : Type} (f : LaneId → α) (j : LaneId) : (perLane f)[j] = f j := by
  revert j
  simp [perLane, Fin.forall_fin_succ]

theorem arriving_eq (bytes : List Byte) (t : Nat) :
    arriving bytes t = bytes.mapIdx fun i b => { value := b, arrival := t + i } := by
  induction bytes generalizing t with
  | nil => rfl
  | cons b rest ih => simp [arriving, ih, List.mapIdx_cons, Nat.add_assoc, Nat.add_comm 1]

theorem Receiver.receive_off {r : Receiver} (h : r.state = .off) (runs : LaneRuns) : r.receive runs = r := by
  simp [Receiver.receive, h]

theorem Receiver.receive_on {r : Receiver} (h : r.state ≠ .off) (runs : LaneRuns) :
    r.receive runs = { r with held := r.holding runs } := by
  simp [Receiver.receive, h, Receiver.holding, perLane, arriving_eq]

/-- OFF ignores every byte. -/
theorem State.receive_off {s : State} (h : s.receiver.state = .off) (runs : LaneRuns) : s.receive runs = s := by
  simp [State.receive, Receiver.receive_off h, State.setReceiver]

/-- In every other state the lanes hold what arrives. -/
theorem State.receive_on {s : State} (h : s.receiver.state ≠ .off) (runs : LaneRuns) :
    s.receive runs = s.lanesHold runs := by
  simp [State.receive, Receiver.receive_on h, State.setReceiver, State.lanesHold]

/-- With nothing arriving the lanes hold what they held. -/
theorem Receiver.holding_nothing (r : Receiver) {runs : LaneRuns} (h : ∀ j : LaneId, runs[j].bytes = []) :
    r.holding runs = r.held := by
  have h0 := h 0
  have h1 := h 1
  have h2 := h 2
  have h3 := h 3
  ext1 i hi
  rcases i with _ | _ | _ | _ | i <;> first | omega | simp_all [Receiver.holding]

theorem State.receive_nothing (s : State) {runs : LaneRuns} (h : ∀ j : LaneId, runs[j].bytes = []) : s.receive runs = s := by
  by_cases off : s.receiver.state = .off
  · exact State.receive_off off runs
  · rw [State.receive_on off, State.lanesHold, Receiver.holding_nothing _ h]

theorem onlyLane_eq (lane : LaneId) (run : LaneRun) : onlyLane lane run = runOn lane run := by
  revert lane
  simp [onlyLane, runOn, noBytes, perLane, Fin.forall_fin_succ]

theorem Receiver.bytes_eq (r : Receiver) : r.bytes = valuesOf r.held := by
  ext1 i hi
  have := perLane_getElem (fun j => r.held[j].map LaneByte.value) ⟨i, hi⟩
  simpa [Receiver.bytes, valuesOf] using this

theorem Receiver.consume_eq (r : Receiver) (count : LaneId → Nat) : r.consume count = { r with held := taking r.held count } :=
  rfl

/-! ### The extent and the boundary -/

theorem Receiver.extent_eq (r : Receiver) : r.extent = r.toBoundary := rfl

theorem Receiver.mem_lanesInUse (r : Receiver) (j : LaneId) : j ∈ r.lanesInUse ↔ j.val < r.lanes := by
  have : j ∈ ([0, 1, 2, 3] : List LaneId) := by revert j; decide
  simp [Receiver.lanesInUse, this]

theorem Receiver.holdsBeyond_iff (r : Receiver) (count : Nat) : r.holdsBeyond count = true ↔ r.reaches r.held count := by
  simp only [Receiver.holdsBeyond, List.all_eq_true, decide_eq_true_eq, Receiver.mem_lanesInUse]
  rfl

theorem withinAllowance_iff (l : List Nat) : withinAllowance l = true ↔ ∀ a ∈ l, ∀ b ∈ l, a ≤ b + 16 := by
  simp only [withinAllowance, List.all_eq_true, decide_eq_true_eq]
  rfl

theorem Receiver.aligned_iff (r : Receiver) : r.aligned = true ↔ r.boundaryPresent r.held := by
  have first : ∀ j : LaneId, (r.boundaryBytes j).head? = r.held[j][r.toBoundary j]? := by
    intro j
    simp [Receiver.boundaryBytes, Receiver.extent_eq, List.head?_take, List.head?_drop]
  unfold Receiver.aligned Receiver.boundaryPresent
  rw [Bool.and_eq_true, withinAllowance_iff]
  simp only [List.all_eq_true, decide_eq_true_eq, Receiver.mem_lanesInUse, List.mem_filterMap, first]
  constructor
  · rintro ⟨word, skew⟩
    have arrives : ∀ j : LaneId, ∃ a, j.val < r.lanes → r.held[j][r.toBoundary j]?.map LaneByte.arrival = some a := by
      intro j
      by_cases hj : j.val < r.lanes
      · have hw := word j hj
        rw [Receiver.boundaryBytes, Receiver.extent_eq] at hw
        have hl := congrArg List.length hw
        simp only [List.length_map, List.length_take, List.length_drop, alignmentWord, List.length_cons, List.length_nil] at hl
        exact ⟨_, fun _ => by rw [List.getElem?_eq_getElem (show r.toBoundary j < r.held[j].length by omega)]; rfl⟩
      · exact ⟨0, fun h => absurd h hj⟩
    choose at' hat using arrives
    refine ⟨at', fun j hj => ⟨word j hj, hat j hj⟩, fun i j hi hj => ?_⟩
    exact skew _ ⟨i, hi, hat i hi⟩ _ ⟨j, hj, hat j hj⟩
  · rintro ⟨at', word, skew⟩
    refine ⟨fun j hj => (word j hj).1, ?_⟩
    rintro a ⟨i, hi, ha⟩ b ⟨j, hj, hb⟩
    rw [(word i hi).2] at ha
    rw [(word j hj).2] at hb
    cases ha
    cases hb
    exact skew i j hi hj

/-- A position on every lane in use, within the allowance. -/
theorem Receiver.positioned_iff (r : Receiver) :
    r.positioned = true ↔
      ∃ at' : LaneId → Nat, (∀ j : LaneId, j.val < r.lanes → r.positions[j] = some (at' j))
        ∧ ∀ i j : LaneId, i.val < r.lanes → j.val < r.lanes → at' i ≤ at' j + 16 := by
  unfold Receiver.positioned
  rw [Bool.and_eq_true, withinAllowance_iff]
  simp only [List.all_eq_true, Receiver.mem_lanesInUse, List.mem_filterMap]
  constructor
  · rintro ⟨known, skew⟩
    have here : ∀ j : LaneId, ∃ a, j.val < r.lanes → r.positions[j] = some a := by
      intro j
      by_cases hj : j.val < r.lanes
      · obtain ⟨a, ha⟩ := Option.isSome_iff_exists.mp (known j hj)
        exact ⟨a, fun _ => ha⟩
      · exact ⟨0, fun h => absurd h hj⟩
    choose at' hat using here
    exact ⟨at', hat, fun i j hi hj => skew _ ⟨i, hi, hat i hi⟩ _ ⟨j, hj, hat j hj⟩⟩
  · rintro ⟨at', known, skew⟩
    refine ⟨fun j hj => by rw [known j hj]; rfl, ?_⟩
    rintro a ⟨i, hi, ha⟩ b ⟨j, hj, hb⟩
    rw [known i hi] at ha
    rw [known j hj] at hb
    cases ha
    cases hb
    exact skew i j hi hj

/-! ### The alignment word -/

theorem findWord_some (lane : LaneId) (bytes : List LaneByte) (n a : Nat) (h : FirstWord bytes n a) :
    findWord lane bytes = some { lane := lane, arrival := a, rest := bytes.drop (n + 4) } := by
  induction bytes generalizing n with
  | nil =>
    obtain ⟨_, _, h⟩ := h
    simp at h
  | cons b rest ih =>
    obtain ⟨word, before, arrival⟩ := h
    unfold findWord
    cases n with
    | zero =>
      rw [if_pos (by simpa [WordAt, alignmentWord] using word)]
      simp at arrival
      simp [arrival]
    | succ n =>
      have not0 := before 0 (Nat.zero_lt_succ n)
      rw [if_neg (by simpa [WordAt, alignmentWord] using not0)]
      have h := ih n ⟨by simpa [WordAt] using word, fun m hm => by simpa [WordAt] using before (m + 1) (by omega),
        by simpa using arrival⟩
      rw [h]
      simp

theorem findWord_none (lane : LaneId) (bytes : List LaneByte) :
    findWord lane bytes = none ↔ ∀ n, ¬WordAt bytes n := by
  induction bytes with
  | nil => simp [findWord, WordAt]
  | cons b rest ih =>
    unfold findWord
    split
    · rename_i h
      simp only [reduceCtorEq, false_iff, not_forall, not_not]
      exact ⟨0, by simpa [WordAt, alignmentWord] using h⟩
    · rename_i h
      rw [ih]
      constructor
      · intro hr n
        cases n with
        | zero => simpa [WordAt, alignmentWord] using h
        | succ n => simpa [WordAt] using hr n
      · intro hr n
        simpa [WordAt] using hr (n + 1)

/-! ### The search of LOCKED -/

/-- The match of a lane names the lane. -/
theorem findWord_lane {lane : LaneId} {bytes : List LaneByte} {m : WordMatch} (h : findWord lane bytes = some m) :
    m.lane = lane ∧ m.rest.length < bytes.length := by
  induction bytes with
  | nil => simp [findWord] at h
  | cons b rest ih =>
    unfold findWord at h
    split at h
    · cases h
      simp
    · have := ih h
      exact ⟨this.1, Nat.lt_succ_of_lt this.2⟩

/-- A first word is found, and what is found is the first word. -/
theorem findWord_first {lane : LaneId} {bytes : List LaneByte} {m : WordMatch} (h : findWord lane bytes = some m) :
    ∃ n, FirstWord bytes n m.arrival := by
  have some' : ∃ n, WordAt bytes n := by
    by_contra hn
    rw [(findWord_none lane bytes).mpr (not_exists.mp hn)] at h
    cases h
  classical
  let n := Nat.find some'
  have word : WordAt bytes n := Nat.find_spec some'
  have inside : n < bytes.length := by
    have hl := congrArg List.length word
    simp only [List.length_map, List.length_take, List.length_drop, List.length_cons, List.length_nil] at hl
    omega
  have first : FirstWord bytes n bytes[n].arrival :=
    ⟨word, fun k hk => Nat.find_min some' hk, by rw [List.getElem?_eq_getElem inside]; rfl⟩
  have found := findWord_some lane bytes n _ first
  rw [h] at found
  cases found
  exact ⟨n, first⟩

/-- The earliest of matches given in lane order: none arrived before it, and of those that arrived with it none is on a lower lane. -/
theorem earliest_some {l : List WordMatch} (order : l.Pairwise fun a b => a.lane < b.lane) {m : WordMatch}
    (h : earliest l = some m) : m ∈ l ∧ ∀ x ∈ l, m.arrival < x.arrival ∨ (m.arrival = x.arrival ∧ m.lane ≤ x.lane) := by
  induction l generalizing m with
  | nil => simp [earliest] at h
  | cons a rest ih =>
    rw [List.pairwise_cons] at order
    unfold earliest at h
    cases hr : earliest rest with
    | none =>
      have empty : rest = [] := by
        cases rest with
        | nil => rfl
        | cons b r =>
          unfold earliest at hr
          split at hr
          · simp at hr
          · split at hr <;> simp at hr
      rw [hr] at h
      cases h
      simp [empty]
    | some n =>
      obtain ⟨mem, least⟩ := ih order.2 hr
      rw [hr] at h
      simp only at h
      split at h
      · rename_i hle
        cases h
        refine ⟨List.mem_cons_self, fun x hx => ?_⟩
        rcases List.mem_cons.mp hx with rfl | hx
        · exact .inr ⟨rfl, le_refl _⟩
        · have := order.1 x hx
          rcases least x hx with h1 | ⟨h1, _⟩
          · exact .inl (by omega)
          · rcases Nat.lt_or_ge a.arrival x.arrival with h2 | h2
            · exact .inl h2
            · exact .inr ⟨by omega, le_of_lt this⟩
      · rename_i hle
        cases h
        refine ⟨List.mem_cons_of_mem _ mem, fun x hx => ?_⟩
        rcases List.mem_cons.mp hx with rfl | hx
        · exact .inl (by omega)
        · exact least x hx

theorem earliest_none {l : List WordMatch} : earliest l = none ↔ l = [] := by
  cases l with
  | nil => simp [earliest]
  | cons a rest =>
    unfold earliest
    split
    · simp
    · split <;> simp

/-- The next match is the first word on its lane, and no lane in use has one before it. -/
theorem Receiver.nextMatch_some {r : Receiver} {m : WordMatch} (h : r.nextMatch = some m) :
    m.lane.val < r.lanes ∧ findWord m.lane r.held[m.lane] = some m
      ∧ ∀ (j : LaneId) (x : WordMatch), j.val < r.lanes → findWord j r.held[j] = some x →
          m.arrival < x.arrival ∨ (m.arrival = x.arrival ∧ m.lane ≤ j) := by
  have order : (r.lanesInUse.filterMap fun j => findWord j r.held[j]).Pairwise fun a b => a.lane < b.lane := by
    rw [List.pairwise_filterMap]
    refine List.Pairwise.filter _ ?_
    have base : ([0, 1, 2, 3] : List LaneId).Pairwise fun a b => a < b := by decide
    refine base.imp fun {a b} hab x hx y hy => ?_
    rw [(findWord_lane hx).1, (findWord_lane hy).1]
    exact hab
  obtain ⟨mem, least⟩ := earliest_some order h
  obtain ⟨j, hj, hf⟩ := List.mem_filterMap.mp mem
  obtain rfl := (findWord_lane hf).1
  refine ⟨(r.mem_lanesInUse _).mp hj, hf, fun i x hi hx => ?_⟩
  have := least x (List.mem_filterMap.mpr ⟨i, (r.mem_lanesInUse i).mpr hi, hx⟩)
  rwa [(findWord_lane hx).1] at this

theorem Receiver.nextMatch_none {r : Receiver} :
    r.nextMatch = none ↔ ∀ j : LaneId, j.val < r.lanes → findWord j r.held[j] = none := by
  unfold Receiver.nextMatch
  rw [earliest_none, List.filterMap_eq_nil_iff]
  simp only [Receiver.mem_lanesInUse]

theorem Receiver.takeBoundary_held (r : Receiver) : r.takeBoundary.held = r.held := by
  unfold Receiver.takeBoundary
  split
  · split <;> rfl
  · rfl

/-- A match taken leaves fewer bytes held. -/
theorem Receiver.heldCount_takeMatch {r : Receiver} {m : WordMatch} (h : findWord m.lane r.held[m.lane] = some m) :
    (r.takeMatch m).heldCount < r.heldCount := by
  have hl := (findWord_lane h).2
  have held : (r.takeMatch m).held = r.held.set m.lane m.rest := Receiver.takeBoundary_held _
  have count : ∀ (v : Vector (List LaneByte) 4) (j : LaneId) (rest : List LaneByte), rest.length < v[j].length →
      ([0, 1, 2, 3].map fun i : LaneId => (v.set j rest)[i].length).sum
        < ([0, 1, 2, 3].map fun i : LaneId => v[i].length).sum := by
    intro v
    simp [Fin.forall_fin_succ, Vector.getElem_set]
  unfold Receiver.heldCount
  rw [held]
  exact count r.held m.lane m.rest hl

/-- Bytes enough is enough: more turns find no more words. -/
theorem Receiver.search_enough (n m : Nat) (r : Receiver) (hn : r.heldCount ≤ n) (hm : r.heldCount ≤ m) :
    r.search n = r.search m := by
  have still : ∀ (k : Nat) (r : Receiver), r.nextMatch = none → r.search k = r := by
    intro k r h
    cases k with
    | zero => rfl
    | succ k => simp [Receiver.search, h]
  induction n generalizing r m with
  | zero =>
    have hnone : r.nextMatch = none := by
      by_contra hs
      obtain ⟨x, hx⟩ := Option.ne_none_iff_exists'.mp hs
      have := Receiver.heldCount_takeMatch (Receiver.nextMatch_some hx).2.1
      omega
    rw [still m r hnone]
    rfl
  | succ n ih =>
    cases hx : r.nextMatch with
    | none => rw [still _ r hx, still _ r hx]
    | some x =>
      have less := Receiver.heldCount_takeMatch (Receiver.nextMatch_some hx).2.1
      cases m with
      | zero => omega
      | succ m =>
        simp only [Receiver.search, hx]
        rw [ih m _ (by omega) (by omega)]

/-! ### Headers and packets -/

theorem headerOf_headerBytes (h : BitVec 64) : headerOf (headerBytes h) = h := by
  have value : leValue (headerBytes h) = h.toNat := by
    simp [headerBytes, leBytes, leValue, List.range_succ, Nat.shiftRight_eq_div_pow]
    omega
  simp [headerOf, value]

/-- A header whose eight bytes the lanes hold is taken with them (spec 04 R61). -/
theorem Receiver.takeHeader_some {r : Receiver} {h : BitVec 64} (hr : rebuild r.lanes (valuesOf r.held) 8 = some (headerBytes h)) :
    r.takeHeader = some (h, { r with held := taking r.held fun j => laneShare r.lanes 8 j.val }) := by
  unfold Receiver.takeHeader
  rw [Receiver.bytes_eq, hr]
  simp [headerOf_headerBytes, Receiver.consume_eq]

theorem Receiver.takeHeader_none {r : Receiver} (hr : rebuild r.lanes (valuesOf r.held) 8 = none) : r.takeHeader = none := by
  unfold Receiver.takeHeader
  rw [Receiver.bytes_eq, hr]
  rfl

theorem bodyBytes_extent {r : Receiver} {h : BitVec 64} (hp : r.packet = some h) : r.toBoundary = shareAfter r.lanes h := by
  funext j
  simp [Receiver.toBoundary, hp]

/-- The extent of the packet in progress is taken with the packet. -/
theorem State.packetTaken_eq {s : State} {runs : LaneRuns} {h : BitVec 64} (hp : s.receiver.packet = some h) :
    (s.lanesHold runs).setReceiver (s.lanesHold runs).receiver.endPacket = s.packetTaken runs h := by
  have e : (s.lanesHold runs).receiver.extent = shareAfter s.receiver.lanes h := by
    rw [Receiver.extent_eq]
    exact bodyBytes_extent (r := (s.lanesHold runs).receiver) hp
  unfold Receiver.endPacket
  rw [e, Receiver.consume_eq]
  rfl

/-- A packet that completes is passed on (spec 04 R71). -/
theorem takePacket_completes {s : State} {runs : LaneRuns} {h : BitVec 64} {payload : List Byte}
    (hc : s.completes runs h payload) (between : List NoticeStep) :
    takePacket between (s.receive runs) = passPacket between h payload (s.packetTaken runs h) := by
  obtain ⟨hs, hph, hp, body, hb, rfl, ht⟩ := hc
  rw [State.receive_on (by rw [hs]; decide)]
  unfold takePacket
  have e1 : (s.lanesHold runs).receiver.packet = some h := hp
  have e2 : (s.lanesHold runs).receiver.state = .locked := hs
  have e3 : (s.lanesHold runs).receiver.phase = .payload := hph
  have e4 : rebuild (s.lanesHold runs).receiver.lanes (s.lanesHold runs).receiver.bytes (bodyBytes (headerLength h)) =
      some body := by
    rw [Receiver.bytes_eq]
    exact hb
  have trailer : trailerPasses (headerLength h) body = true := by
    rcases ht with ht | ht <;> simp [trailerPasses, ht]
  simp only [e1, e2, e3, e4, and_self, if_true]
  unfold completePacket
  rw [if_pos trailer, State.packetTaken_eq hp]

end Sys2Proof.Machine
end

