-- ==== Sys2Proof/Laws/Words.lean ====
section
/-! SUPPORT. The shared operations in the words of the statements: each as one update of the state. -/

namespace Sys2Proof.Machine

variable (s : State)

theorem map4_eq {α β : Type} (f : α → β) (v : Vector α 4) : map4 f v = v.map f := by
  ext i h
  rcases i with _ | _ | _ | _ | i <;> first | omega | simp [map4]

theorem map8_eq {α β : Type} (f : α → β) (v : Vector α 8) : map8 f v = v.map f := by
  ext i h
  rcases i with _ | _ | _ | _ | _ | _ | _ | _ | i <;> first | omega | simp [map8]

theorem State.ask_eq (r : Request) : s.ask r = { s with queue := s.joined r } := by
  unfold State.ask State.joined
  split <;> rfl

theorem State.issue_eq (h : s.halted = false) (role : PortRole) (access : PortAccess) :
    s.issue role access = { s with port := s.issued role access } := by
  simp [State.issue, h, State.issued]

theorem State.enqueue_eq (role : WriteRole) (address : DWord) (data : List Byte) :
    s.enqueue role address data =
      { s with
        queue := s.written role address data
        port := { s.port with nextTag := s.port.nextTag + 1 } } := rfl

theorem Tracker.enterFault_eq (t : Tracker) : t.enterFault =
    { t with
      state := .idle
      deadline := none
      framesTruncated := t.framesTruncated + (if t.state = .idle then 0 else 1) } := by
  unfold Tracker.enterFault
  split <;> simp

theorem State.enterFault_eq : s.enterFault = faultedFrom s := by
  unfold State.enterFault faultedFrom
  rw [map4_eq, map8_eq, Tracker.enterFault_eq]
  rfl

/-- A request asked for twice is asked for once. -/
theorem State.ask_ask (r : Request) : (s.ask r).ask r = s.ask r := by
  rw [State.ask.eq_def (s.ask r), if_pos (s.waitingFor_ask r r.same_self)]

theorem failStart_eq (sequence : Word) (reason : Reason) (view : Byte) :
    failStart sequence reason view s = startFailed s sequence reason view := by
  unfold failStart reportRejection startFailed State.quietFetch
  rw [State.ask_eq]
  cases reason <;> simp [State.setPlan, State.setProgress, State.raise, PlanUnit.quieted, Report.reject, Reason.definitive,
    Reason.transient, State.joined, State.waitingFor, AttentionCause.mask, AttentionCause.bit]

/-- The closing step, as one update. -/
theorem closeFrame_eq {k : ViewId} {v : ViewFrame} (h : (s.channel k).frame = some v) (c : OutcomeClass)
    (cause : OutcomeCause) :
    closeFrame k c cause s =
      { s with
        channels :=
          s.channels.set k
            { s.channel k with
              frame := some { v.discarded with staging := [], closing := true }
              tally := (s.channel k).tally.count v.frameNumber c cause }
        queue := s.joined (.viewTally k) } := by
  unfold closeFrame State.withFrame
  simp only [h]
  rw [State.ask_eq]
  rfl

/-- The allocations of an adoption lie as the spec lays them out (spec 09 R146). -/
theorem Plan.allocations_laidOut (p : Plan) : LaidOut p p.allocations := by
  have at' : ∀ k : ViewId, p.allocations[k] = p.allocation k := by
    intro k
    revert k
    simp [Plan.allocations, Fin.forall_fin_succ]
  have before : ∀ k : ViewId, p.blocksBefore k =
      (((List.finRange 8).filter fun j => j < k).map fun j =>
        match p.sizes[j] with
        | some z => z.accumulatorBlocks + z.stagingBlocks
        | none => 0).sum := by
    intro k
    have blocks : (fun j : ViewId => blocksOf p.sizes[j]) = fun j =>
        match p.sizes[j] with
        | some z => z.accumulatorBlocks + z.stagingBlocks
        | none => 0 := by
      funext j
      cases p.sizes[j] <;> rfl
    unfold Plan.blocksBefore
    rw [blocks]
    congr 2
    revert k
    decide
  intro k
  rw [at' k]
  refine ⟨fun h => by simp [Plan.allocation, h, Allocation.empty], fun z h => ?_⟩
  have here : p.allocation k =
      { first := p.blocksBefore k, accumulatorBlocks := z.accumulatorBlocks, stagingBlocks := z.stagingBlocks } := by
    simp only [Plan.allocation, h]
  rw [here]
  exact congrArg
    (fun n => ({ first := n, accumulatorBlocks := z.accumulatorBlocks, stagingBlocks := z.stagingBlocks } : Allocation)) (before k)

/-! ### The requests a faulted pool leaves -/

/-- A closing step asks for the tally of its own view at most. -/
theorem closeFrame_requests (k : ViewId) (c : OutcomeClass) (x : OutcomeCause) :
    (closeFrame k c x s).queue.requests = s.queue.requests
      ∨ (closeFrame k c x s).queue.requests = s.queue.requests ++ [.viewTally k] := by
  unfold closeFrame State.withFrame
  split
  · dsimp only
    unfold State.ask
    split
    · exact .inl rfl
    · exact .inr rfl
  · exact .inl rfl

theorem claimFailed_requests (x : OutcomeCause) (k : ViewId) :
    (claimFailed x k s).queue.requests = s.queue.requests
      ∨ (claimFailed x k s).queue.requests = s.queue.requests ++ [.viewTally k] := by
  unfold claimFailed State.withFrame
  split
  · dsimp only
    split
    · exact .inl rfl
    · split
      · exact closeFrame_requests _ _ _ _
      · exact closeFrame_requests _ _ _ _
      all_goals exact .inl rfl
  · exact .inl rfl

/-- The failures of a faulted pool's claims ask for tallies of its claimants, in view id order, and for nothing else. -/
theorem faultPool_requests (p : PoolId) :
    ∃ asked : List ViewId, (faultPool p s).queue.requests = s.queue.requests ++ asked.map Request.viewTally
      ∧ asked.Pairwise (· < ·) ∧ ∀ k ∈ asked, k ∈ (s.scanner p).claimants := by
  have step : ∀ (views : List ViewId) (t : State), views.Pairwise (· < ·) →
      ∃ asked : List ViewId,
        (views.foldl (fun t k => if (s.scanner p).claimants.contains k then claimFailed .poolFault k t else t) t).queue.requests
            = t.queue.requests ++ asked.map Request.viewTally
          ∧ asked.Sublist views ∧ ∀ k ∈ asked, k ∈ (s.scanner p).claimants := by
    intro views
    induction views with
    | nil => exact fun t _ => ⟨[], by simp, List.Sublist.refl _, by simp⟩
    | cons k views ih =>
      intro t h
      rw [List.foldl_cons]
      by_cases c : (s.scanner p).claimants.contains k = true
      · rw [if_pos c]
        obtain ⟨asked, h1, h2, h3⟩ := ih (claimFailed .poolFault k t) h.of_cons
        rcases claimFailed_requests t .poolFault k with e | e
        · exact ⟨asked, by rw [h1, e], h2.cons k, h3⟩
        · refine ⟨k :: asked, by rw [h1, e]; simp, h2.cons_cons k, ?_⟩
          intro j hj
          rcases List.mem_cons.mp hj with rfl | hj
          · exact List.contains_iff_mem.mp c
          · exact h3 j hj
      · rw [if_neg c]
        obtain ⟨asked, h1, h2, h3⟩ := ih t h.of_cons
        exact ⟨asked, h1, h2.cons k, h3⟩
  obtain ⟨asked, h1, h2, h3⟩ :=
    step allViews ((s.setScanner p { s.scanner p with state := .faulted, queue := [], service := none }).raise .poolFault) (by decide)
  exact ⟨asked, h1, List.Pairwise.sublist h2 (by decide), h3⟩

/-! ### Reads of the register window -/

theorem leBytes_getElem? (x : Word) {i : Nat} (h : i < 4) : (leBytes 4 x.toNat)[i]? = some (x.extractLsb' (8 * i) 8) := by
  simp only [leBytes, List.getElem?_map, List.getElem?_range h, Option.map_some]
  exact congrArg some (BitVec.eq_of_toNat_eq (by simp [BitVec.extractLsb'_toNat]))

theorem State.readRegister_unlisted {offset : Nat} (h : registerOffsets.contains offset = false) : s.readRegister offset = 0 := by
  simp [registerOffsets] at h
  simp [State.readRegister, h]

/-- A read where no register is listed returns 0 in every byte. -/
theorem State.readWindow_unlisted {offset width : Nat} (h : registerOffsets.contains (readBase offset width) = false) :
    s.readWindow offset width = List.replicate width 0 := by
  unfold State.readWindow
  rw [if_pos h]

/-- A read of 32 bits returns the register, 0 at an unlisted offset. -/
theorem State.readWindow_word (offset : Nat) : s.readWindow offset 4 = leBytes 4 (s.readRegister offset).toNat := by
  have base : readBase offset 4 = offset := rfl
  unfold State.readWindow
  dsimp only
  rw [base]
  split
  · rename_i h
    rw [s.readRegister_unlisted h]
    rfl
  · rw [if_neg (by omega), Nat.sub_self, List.drop_zero, List.take_of_length_le (by simp [leBytes])]

end Sys2Proof.Machine
end

