-- ==== Sys2Proof/Laws/Notices.lean ====
section
/-! SUPPORT. The notices a channel takes and the events of the tracker, in the words of the statements. -/

namespace Sys2Proof.Machine

variable (s : State)

/-! ### A channel's own compare-exchange and its record -/

theorem State.exchangeSlot_eq (role : PortRole) (x : Slot) (n : SlotState) :
    s.exchangeSlot role x n = s.exchanges role x n.code := by
  unfold State.exchangeSlot State.exchanges
  split
  · rename_i h
    rw [State.issue_eq _ (s.halted_of_live h)]
    rfl
  · rename_i h
    refine s.issue_halted _ _ ?_
    by_contra hh
    exact h (s.live_of_not_halted (by simpa using hh))

theorem State.moveChannel_eq (k : ViewId) (c : ChannelState) (v : ViewFrame) : s.moveChannel k c v = s.put k c v := rfl

theorem State.setFrame_eq (k : ViewId) (v : ViewFrame) : s.setFrame k v = s.put k (s.channel k).state v := rfl

theorem State.withdraw_eq (k : ViewId) :
    s.withdraw (.metadataCopy k) =
      { s with queue := { s.queue with requests := s.queue.requests.filter fun q => q ≠ .metadataCopy k } } := by
  have h : (fun q => !(Request.metadataCopy k).same q) = fun q => decide (q ≠ .metadataCopy k) := by
    funext q
    cases q <;> simp [Request.same, eq_comm]
  simp only [State.withdraw, h]

/-! ### Abandonment and the first write -/

theorem ViewFrame.dropped_mark (v : ViewFrame) (c : OutcomeCause) (t : DWord) : (v.mark c t).dropped = leftBehind v c t := by
  unfold ViewFrame.dropped leftBehind ViewFrame.mark ViewFrame.discarded
  cases h : v.copy <;> simp [CopyProgress.withdrawn]

theorem freePlaces_withdrawn (staging : List CellRow) :
    freePlaces (staging.map CellRow.withdrawn) = withdrawnFrom staging := by
  unfold freePlaces withdrawnFrom
  rw [List.filter_map]
  show List.map _ _ = List.map CellRow.withdrawn _
  congr 1
  apply List.filter_congr
  intro c _
  have row : ∀ r : StagedRow, r.withdrawn.finished = !(r.transactions.any fun t => t = .outstanding) := by
    intro r
    simp only [StagedRow.finished, StagedRow.withdrawn, List.all_map, List.not_any_eq_all_not]
    congr 1
    funext t
    cases t <;> rfl
  simp [CellRow.withdrawn, CellRow.finished, Function.comp_def, row, List.not_all_eq_any_not]

theorem ViewFrame.withdrawn_mark (v : ViewFrame) (c : OutcomeCause) (t : DWord) :
    (v.mark c t).withdrawn = { leftBehind v c t with staging := withdrawnFrom v.staging } := by
  unfold ViewFrame.withdrawn
  rw [freePlaces_withdrawn]
  unfold leftBehind ViewFrame.mark ViewFrame.discarded
  cases h : v.copy <;> simp [CopyProgress.withdrawn]

theorem abandonFrame_eq (k : ViewId) (c : OutcomeCause) (t : DWord) : abandonFrame k c t s = s.abandons c t k := by
  unfold abandonFrame State.withFrame State.abandons
  split
  · rename_i v h
    simp only [h, ViewFrame.dropped_mark, ViewFrame.withdrawn_mark, State.withdraw_eq, State.moveChannel_eq, returnSlot,
      State.exchangeSlot_eq]
    cases ha : v.abandoned with
    | some _ => simp
    | none =>
      simp only [Option.isSome_none, Bool.false_eq_true, if_false, ne_eq, not_true_eq_false]
      have slot : (leftBehind v c t).slot = v.slot := rfl
      rw [slot]
      cases (s.channel k).state <;> cases v.firstWrite <;> cases v.slot <;> rfl
  · rename_i h
    simp [h]

@[simp] theorem State.channel_put_same (k : ViewId) (c : ChannelState) (v : ViewFrame) :
    (s.put k c v).channel k = { s.channel k with state := c, frame := some v } := s.channel_moveChannel_same k c v

theorem State.put_put (k : ViewId) (c d : ChannelState) (v w : ViewFrame) : (s.put k c v).put k d w = s.put k d w := by
  have h := s.channel_put_same k c v
  unfold State.put at h ⊢
  rw [h]
  simp

/-- A compare-exchange and a change of the channel's record do not meet. -/
theorem State.exchanges_put (role : PortRole) (x : Slot) (code : Byte) (k : ViewId) (c : ChannelState) (v : ViewFrame) :
    (s.exchanges role x code).put k c v = (s.put k c v).exchanges role x code := by
  unfold State.exchanges
  have hl : (s.put k c v).live = s.live := rfl
  simp only [hl]
  split <;> rfl

@[simp] theorem State.channel_exchanges (role : PortRole) (x : Slot) (code : Byte) (k : ViewId) :
    (s.exchanges role x code).channel k = s.channel k := by
  unfold State.exchanges
  split <;> rfl

theorem enterFlushing_eq {k : ViewId} {v : ViewFrame} (h : (s.channel k).frame = some v) :
    enterFlushing k s =
      if (s.channel k).state = .active ∧ v.windowComplete = true ∧ v.firstWrite ≠ .notIssued then s.put k .flushing v else s := by
  simp only [enterFlushing, State.withFrame, h]
  rfl

theorem advanceActive_eq (k : ViewId) : advanceActive k s = s.advances k := by
  unfold advanceActive issueFirstWrite State.withFrame State.advances
  cases h : (s.channel k).frame with
  | none => simp [enterFlushing, State.withFrame, h]
  | some v =>
    have work : v.hasWork = true ↔ v.copy = .due ∨ v.staging ≠ [] := by simp [ViewFrame.hasWork]
    cases hx : v.slot with
    | none => simp [enterFlushing, State.withFrame, h, State.moveChannel_eq, hx]
    | some x =>
      simp only [work, State.exchangeSlot_eq, State.setFrame_eq, hx]
      split
      · rename_i hw
        rw [← hx, enterFlushing_eq (v := { v with firstWrite := .outstanding }) (h := by simp)]
        simp only [hw.1, State.exchanges_put, State.put_put]
        cases v.windowComplete <;> simp <;> rfl
      · simp [enterFlushing, State.withFrame, h, State.moveChannel_eq]

/-! ### Notices -/

theorem State.eachView_eq (f : ViewId → State → State) : s.eachView f = eachOf f s := rfl

theorem metadataNotice_eq (b : Bank) (k : ViewId) :
    metadataNotice b.bytes.length b.truncated k s = s.takesMetadata b k := by
  unfold metadataNotice State.withFrame State.takesMetadata
  cases h : (s.channel k).frame with
  | none => rfl
  | some v =>
    have guard : ((s.channel k).producing && v.abandoned.isNone) = true ↔ (s.channel k).opened ∧ v.abandoned = none := by
      simp [Channel.producing, Channel.opened]
    simp only [guard, advanceActive_eq, State.setFrame_eq]
    split
    · congr 2
      simp [ViewFrame.takeMetadata, Bool.decide_and, Bool.decide_or]
    · rfl

theorem finalizeGroup_eq {k : ViewId} {w : ViewFrame} (time : DWord) :
    finalizeGroup time k w s =
      if w.staging.length < 2 then (s.put k (s.channel k).state (groupStaged w time)).advances k
      else
        (s.put k (s.channel k).state { w with holeRows := w.holeRows + w.groupHoles }).abandons
          (if (s.channel k).state = .claiming then .lateBuffer else .overrun) time k := by
  have free : ({ w with holeRows := w.holeRows + w.groupHoles } : ViewFrame).placeFree = decide (w.staging.length < 2) := rfl
  unfold finalizeGroup groupStaged
  simp only [advanceActive_eq, abandonFrame_eq, State.setFrame_eq, free]
  by_cases hp : w.staging.length < 2 <;> by_cases hg : w.group + 1 < groupCount w.period w.descriptor <;>
    simp only [hp, hg, decide_true, decide_false, Bool.false_eq_true, if_true, if_false] <;> rfl

theorem rowNotice_eq (time : DWord) (row : Nat) (payload : Option (List Byte)) (k : ViewId) :
    rowNotice time row payload k s = s.takesRow time row payload k := by
  unfold rowNotice State.withFrame State.takesRow
  cases h : (s.channel k).frame with
  | none => rfl
  | some v =>
    have guard : ((s.channel k).inProduction v) = true ↔ (s.channel k).produces v := by
      simp [Channel.producing, Channel.opened, Channel.inProduction, Channel.produces, and_assoc]
    simp only [guard]
    split
    · cases placeRow v.period v.descriptor row with
      | none => rfl
      | some place =>
        have took : v.takeRow place payload = rowTaken v place payload := by
          cases payload <;> rfl
        have loses : v.losesRow place payload = true ↔ place.weight ≠ 0 ∧ payload = none ∧ v.descriptor.policy = 1 := by
          simp [ViewFrame.losesRow, and_assoc]
        have kept : (rowTaken v place payload).staging = v.staging := by
          unfold rowTaken
          split
          · rfl
          · split <;> rfl
        simp only [took, loses, State.setFrame_eq, abandonFrame_eq, finalizeGroup_eq, State.channel_put_same, State.put_put,
          kept]
        cases place.last <;> simp
    · rfl

theorem truncationNotice_eq (c : OutcomeCause) (time : DWord) (k : ViewId) :
    truncationNotice c time k s = s.takesTruncation c time k := by
  unfold truncationNotice State.withFrame State.takesTruncation
  cases h : (s.channel k).frame with
  | none => rfl
  | some v =>
    have guard : ((s.channel k).inProduction v) = true ↔ (s.channel k).produces v := by
      simp [Channel.producing, Channel.opened, Channel.inProduction, Channel.produces, and_assoc]
    simp only [guard, abandonFrame_eq]

theorem abortChannel_eq (time : DWord) (k : ViewId) : abortChannel time k s = s.takesAbort time k := by
  have guard : (s.channel k).producing = true ↔ (s.channel k).opened := by simp [Channel.producing, Channel.opened]
  simp only [abortChannel, State.takesAbort, guard, abandonFrame_eq]

theorem closeMetadata_eq : closeMetadata s = s.metadataClosed := by
  have each : metadataNotice s.tracker.bank.bytes.length s.tracker.bank.truncated =
      State.takesMetadata s.tracker.banks[s.tracker.currentBank] := by
    funext k t
    exact metadataNotice_eq t s.tracker.bank k
  simp only [closeMetadata, State.metadataClosed, each, State.eachView_eq]

/-! ### Rows, the end of a frame and truncation -/

/-- A step between two notices is its own command's step. -/
theorem takeMemoryStep_eq (x : MemoryStep) :
    takeMemoryStep x s = if s.run.state = .starting then s else s.commanded (stepCommand x) := by
  unfold takeMemoryStep
  cases x <;> rfl

theorem takeBetween_eq (between : List NoticeStep) (row : Nat) : takeBetween between row s = s.steppedBefore between row := by
  unfold takeBetween State.steppedBefore
  congr 1
  funext t a
  exact takeMemoryStep_eq t a.step

theorem resolveRow_eq (between : List NoticeStep) (payload : Option (List Byte)) (row : Nat) :
    resolveRow between payload row s = s.resolves between row payload := by
  have each : rowNotice s.timebase row payload = State.takesRow s.timebase row payload := by
    funext k t
    exact rowNotice_eq t _ _ _ k
  simp only [resolveRow, State.resolves, each, State.eachView_eq, takeBetween_eq]

theorem resolveMissing_eq (between : List NoticeStep) (first count : Nat) :
    resolveMissing between first count s = s.resolvesMissing between first count := by
  unfold resolveMissing
  induction count generalizing first s with
  | zero => rfl
  | succ n ih =>
    rw [List.range'_succ, List.foldl_cons, ih, resolveRow_eq]
    rfl

theorem announceEnd_eq : announceEnd s = s.frameEnds := by
  unfold announceEnd frameEndFetch readSelector State.frameEnds
  rw [State.ask_eq]
  by_cases h : s.run.state = .running ∧ s.plan.fetch = .quiet
  · rw [if_pos (by exact h), if_pos h, State.issue_eq _ (by simp [State.halted, State.setPlan, h.1])]
    simp [State.setPlan, State.issued, State.blockAddress]
  · rw [if_neg (by exact h), if_neg h]

theorem truncateFrame_eq (c : OutcomeCause) : truncateFrame c s = s.truncates c := by
  have each : truncationNotice c s.timebase = State.takesTruncation c s.timebase := by
    funext k t
    exact truncationNotice_eq t c _ k
  have h := closeMetadata_same s
  have count : ∀ n : Word, (if c = .gapTimeout then n + 1 else n) = n + if c = .gapTimeout then 1 else 0 := by
    intro n
    split <;> simp
  unfold truncateFrame State.truncates
  dsimp only
  split
  · rfl
  · rw [announceEnd_eq, State.eachView_eq, State.setTracker_timebase, h.timebase, each, h.tracker, closeMetadata_eq, count]
    rfl

theorem restartDeadline_eq (h : s.tracker.state ≠ .idle) :
    restartDeadline s = { s with tracker := { s.tracker with deadline := s.deadlineNow } } := by
  simp [restartDeadline, State.inFrame, h, deadlineFrom, State.deadlineNow, State.setTracker]

/-- A PIXEL_ROW in frame (spec 05 R88). -/
theorem takePixelRow_inFrame (between : List NoticeStep) (row : Nat) (payload : List Byte) (h : s.tracker.state ≠ .idle) :
    takePixelRow between row payload s =
      let opened : State :=
        { s.metadataClosed with tracker := { s.tracker with state := .body, deadline := s.deadlineNow } }
      if row < s.tracker.nextRow ∨ s.tracker.height.toNat ≤ row then
        { opened with tracker := { opened.tracker with orderErrors := s.tracker.orderErrors + 1 } }
      else
        { (opened.resolvesMissing between s.tracker.nextRow (row - s.tracker.nextRow)).resolves between row (some payload) with
          tracker := { opened.tracker with nextRow := row + 1 } } := by
  have hc := closeMetadata_same s
  rw [closeMetadata_eq] at hc
  unfold takePixelRow
  rw [if_neg h, closeMetadata_eq]
  generalize s.metadataClosed = t at hc ⊢
  dsimp only
  have now : t.deadlineNow = s.deadlineNow := by simp [State.deadlineNow, hc.tracker, hc.timebase]
  rw [restartDeadline_eq _ (by simp)]
  have opened : ({ t.setTracker { t.tracker with state := .body } with
        tracker :=
          { (t.setTracker { t.tracker with state := .body }).tracker with
            deadline := (t.setTracker { t.tracker with state := .body }).deadlineNow } } : State) =
      { t with tracker := { s.tracker with state := .body, deadline := s.deadlineNow } } := by
    rw [← hc.tracker, ← now]
    rfl
  rw [opened]
  generalize hu : ({ t with tracker := { s.tracker with state := .body, deadline := s.deadlineNow } } : State) = u
  have tracker : u.tracker = { s.tracker with state := .body, deadline := s.deadlineNow } := by rw [← hu]
  have e1 : u.tracker.nextRow = s.tracker.nextRow := by rw [tracker]
  have e2 : u.tracker.height = s.tracker.height := by rw [tracker]
  have e3 : u.tracker.orderErrors = s.tracker.orderErrors := by rw [tracker]
  rw [e1, e2]
  split
  · rw [e3, ← hu]
    rfl
  · have h3 := (resolveMissing_same u between s.tracker.nextRow (row - s.tracker.nextRow)).tracker
    rw [resolveMissing_eq] at h3 ⊢
    generalize u.resolvesMissing between s.tracker.nextRow (row - s.tracker.nextRow) = w at h3 ⊢
    have h4 := (resolveRow_same w between (some payload) row).tracker
    rw [resolveRow_eq] at h4 ⊢
    generalize w.resolves between row (some payload) = z at h4 ⊢
    rw [h4, h3, tracker]
    rfl

/-- A FRAME_END in frame (spec 05 R90). -/
theorem takeFrameEnd_inFrame (between : List NoticeStep) (number : Half) (h : s.tracker.state ≠ .idle) :
    takeFrameEnd between number s =
      State.frameEnds
        { s.metadataClosed.resolvesMissing between s.tracker.nextRow (s.tracker.height.toNat - s.tracker.nextRow) with
          tracker :=
            { s.tracker with
              state := .idle
              deadline := none
              nextRow := s.tracker.height.toNat
              framesEnded := s.tracker.framesEnded + 1
              orderErrors := s.tracker.orderErrors + (if number = s.tracker.frameNumber then 0 else 1) } } := by
  have hc := closeMetadata_same s
  rw [closeMetadata_eq] at hc
  unfold takeFrameEnd
  rw [if_neg h, closeMetadata_eq]
  generalize s.metadataClosed = t at hc ⊢
  dsimp only
  rw [hc.tracker]
  have h3 := (resolveMissing_same t between s.tracker.nextRow (s.tracker.height.toNat - s.tracker.nextRow)).tracker
  rw [resolveMissing_eq] at h3 ⊢
  generalize t.resolvesMissing between s.tracker.nextRow (s.tracker.height.toNat - s.tracker.nextRow) = u at h3 ⊢
  rw [announceEnd_eq, h3, hc.tracker]
  have errors : (if number = s.tracker.frameNumber then s.tracker.orderErrors else s.tracker.orderErrors + 1) =
      s.tracker.orderErrors + if number = s.tracker.frameNumber then 0 else 1 := by
    split <;> simp
  rw [errors]
  rfl

end Sys2Proof.Machine
end

