-- ==== Sys2Proof/Laws/OwnSteps.lean ====
section
/-! SUPPORT. When each of the part's own steps is due: the Bool tests of State.ownStep against the rules' conditions of Safety. -/
namespace Sys2Proof.Machine

theorem State.waitingFor_eq_false_of_same {s : State} {r : Request} (h : ∀ q, r.same q = decide (r = q)) :
    s.waitingFor r = false ↔ r ∉ s.queue.requests := by
  simp only [State.waitingFor, List.any_eq_false, h, decide_eq_true_eq]
  exact ⟨fun hh hm => hh r hm rfl, fun hh q hq e => hh (e ▸ hq)⟩

theorem allViews_all_iff (p : ViewId → Bool) : allViews.all p = true ↔ ∀ k, p k = true := by
  rw [List.all_eq_true]; exact ⟨fun h k => h k (mem_allViews k), fun h k _ => h k⟩

theorem State.canStop_iff (s : State) : s.canStop = true ↔ s.stopReady := by
  have v : ∀ k, s.waitingFor (.viewTally k) = false ↔ Request.viewTally k ∉ s.queue.requests := fun k =>
    State.waitingFor_eq_false_of_same (by intro q; cases q <;> simp [Request.same])
  have l : s.waitingFor .linkTally = false ↔ Request.linkTally ∉ s.queue.requests :=
    State.waitingFor_eq_false_of_same (by intro q; cases q <;> simp [Request.same])
  have a : s.waitingFor .adoptionWord = false ↔ Request.adoptionWord ∉ s.queue.requests :=
    State.waitingFor_eq_false_of_same (by intro q; cases q <;> simp [Request.same])
  unfold State.canStop State.quiescent State.stopReady State.trackerQuiet State.planQuiet
  simp only [Bool.and_eq_true, allViews_all_iff, State.channelQuiet, Bool.or_eq_true, decide_eq_true_eq, Bool.not_eq_true', v, l, a,
    beq_iff_eq, State.outstandingCount, Nat.add_eq_zero_iff, List.length_eq_zero_iff]
  constructor
  · rintro ⟨h1, ⟨⟨⟨⟨h2, h3⟩, h4⟩, h5⟩, ⟨h6, h7⟩, h8⟩, h9, h10⟩
    exact ⟨h1, h2, fun k => (h5 k).1.1, h6, h9, h10, h3, h7, fun k => (h5 k).1.2⟩
  · rintro ⟨h1, h2, h3, h4, h5, h6, h7, h8, h9⟩
    refine ⟨h1, ⟨⟨⟨⟨h2, h7⟩, ?_⟩, fun k => ⟨⟨h3 k, h9 k⟩, ?_⟩⟩, ⟨h4, h8⟩, ?_⟩, h5, h6⟩ <;> simp [h6]

theorem State.readyToSeal_iff (s : State) (k : ViewId) : s.readyToSeal k = true ↔ s.sealReady k := by
  unfold State.readyToSeal State.sealReady
  cases h : (s.channel k).frame with
  | none => simp
  | some v => simp [ViewFrame.flushed, and_assoc]

theorem nextTransaction_isSome_iff (l : List CellRow) :
    (nextTransaction l).isSome = true ↔ ∃ c ∈ l, ∃ r ∈ c.rows, TransactionState.waiting ∈ r.transactions := by
  unfold nextTransaction
  rw [List.findSome?_isSome_iff]
  simp only [List.mem_flatMap, StagedRow.nextWaiting, Option.isSome_map, List.findIdx?_isSome, List.any_eq_true, beq_iff_eq]
  constructor
  · rintro ⟨r, ⟨c, hc, hr⟩, t, ht, rfl⟩; exact ⟨c, hc, r, hr, ht⟩
  · rintro ⟨c, hc, r, hr, ht⟩; exact ⟨r, ⟨c, hc, hr⟩, _, ht, rfl⟩

theorem State.eligible_iff (s : State) (k : ViewId) : s.eligible k = true ↔ s.rowReady k := by
  unfold State.eligible State.rowReady
  cases h : (s.channel k).frame with
  | none => simp
  | some v =>
    simp only [Bool.and_eq_true, Bool.or_eq_true, decide_eq_true_eq, nextTransaction_isSome_iff, Bool.not_eq_true',
      Option.isNone_iff_eq_none]
    rw [Option.isSome_iff_exists]
    constructor
    · rintro ⟨⟨⟨⟨⟨a, b⟩, c⟩, d⟩, e⟩, ⟨x, f⟩⟩
      exact ⟨v, x, rfl, f, a, b, c, d, e⟩
    · rintro ⟨w, x, hw, f, a, b, c, d, e⟩
      cases hw
      exact ⟨⟨⟨⟨⟨a, b⟩, c⟩, d⟩, e⟩, ⟨x, f⟩⟩

theorem State.roundRobin_isSome_iff (s : State) : s.roundRobin.isSome = true ↔ ∃ k, s.rowReady k := by
  unfold State.roundRobin
  rw [List.find?_isSome]
  constructor
  · rintro ⟨k, _, h⟩; exact ⟨k, (s.eligible_iff k).mp h⟩
  · rintro ⟨k, h⟩
    refine ⟨k, ?_, (s.eligible_iff k).mpr h⟩
    generalize s.queue.pointer = p
    clear h; revert p k; decide

theorem State.canAdmit_iff (s : State) :
    s.canAdmit = true ↔ s.live ∧ s.queue.entries.length < 32 ∧ (s.queue.requests ≠ [] ∨ ∃ k, s.rowReady k) := by
  have hl : s.halted = false ↔ s.live := ⟨s.live_of_not_halted, s.halted_of_live⟩
  unfold State.canAdmit State.entryFree
  simp only [Bool.and_eq_true, Bool.or_eq_true, Bool.not_eq_true', s.roundRobin_isSome_iff, hl, decide_eq_true_eq,
    List.isEmpty_eq_false_iff, ne_eq]
  change (s.queue.entries.length < 32 ∧ _) ∧ _ ↔ _
  tauto

theorem State.canServe_iff (s : State) (p : PoolId) : s.canServe p = true ↔ s.serveReady p := by
  unfold State.canServe State.serveReady
  simp [Option.isSome_iff_ne_none, Option.isNone_iff_eq_none, and_assoc, or_assoc]

/-- The first index of a rising list that passes a test: the least one. -/
theorem find?_eq_some_of_least {n : Nat} {l : List (Fin n)} (rising : l.Pairwise (· < ·)) (whole : ∀ k, k ∈ l) {p : Fin n → Bool} {k : Fin n}
    (h : p k = true) (least : ∀ j, j < k → p j = false) : l.find? p = some k := by
  rw [List.find?_eq_some_iff_append]
  refine ⟨h, ?_⟩
  obtain ⟨a, b, rfl⟩ := List.append_of_mem (whole k)
  refine ⟨a, b, rfl, fun x hx => ?_⟩
  rw [List.pairwise_append] at rising
  simp [least x (rising.2.2 x hx k List.mem_cons_self)]

end Sys2Proof.Machine
end

