-- ==== Sys2Proof/Tests/Slice0.lean ====
section
/-! SUPPORT. Tests: the well-formedness checks, the spec's worked numbers, one step of each command, and for every statement with
hypotheses a concrete state that meets them. -/

namespace Sys2Proof.Tests

open Sys2Proof Sys2Proof.Machine

-- one kernel evaluation at a time: each would otherwise hold a thread of its own while it waits for the ones before
set_option Elab.async false

/-! ### Small states -/

/-- The state a command gives. -/
def after (c : Instr) (s : State) : State :=
  match exec c s with
  | .next t => t
  | .fault _ => s
  | .refused _ => s

/-- Right after reset, but for the run state. -/
def inRun (r : RunState) : State := { State.reset with run := { RunControl.initial with state := r } }

/-- One read or compare-exchange outstanding, under tag 0. -/
def reading (role : PortRole) (s : State) : State :=
  { s with port := { entries := [{ tag := 0, role := role, access := .read 0 8 }], nextTag := 1 } }

/-- One write outstanding, under tag 0. -/
def writing (role : WriteRole) (s : State) : State :=
  { s with
    queue := { s.queue with entries := [{ tag := 0, role := role, address := 0, data := [] }] }
    port := { entries := [], nextTag := 1 } }

/-- A descriptor from its fields; the unused bytes are 0. -/
def descriptor (rows columns nv nh offset gain depth policy notify every phase limit : Nat) (wv wh : List Nat) : Descriptor :=
  { raw :=
      BitVec.ofNat 512
        (leValue
          (leBytes 2 0 ++ leBytes 2 rows ++ leBytes 2 0 ++ leBytes 2 columns ++ leBytes 1 nv ++ leBytes 1 nh
            ++ leBytes 2 offset ++ leBytes 2 gain ++ leBytes 1 depth ++ leBytes 1 0 ++ leBytes 1 policy ++ leBytes 1 notify
            ++ leBytes 1 every ++ leBytes 1 phase ++ leBytes 2 limit ++ leBytes 10 0
            ++ ((wv ++ List.replicate 16 0).take 16).map (BitVec.ofNat 8)
            ++ ((wh ++ List.replicate 16 0).take 16).map (BitVec.ofNat 8))) }

/-- A view of 4 rows by 16 columns, averaged 2 by 2 into 8-bit pixels. -/
def small : Descriptor := descriptor 4 16 2 2 0 256 8 0 1 1 0 64 [1, 1] [1, 1]

/-- A plan page for 16 by 4 frames of 10-bit pixels with view 0 enabled. -/
def page (sequence depth gap : Nat) (d : Descriptor) : BitVec 8192 :=
  BitVec.ofNat 8192
    (sequence + 2 ^ 32 * 1 + 2 ^ 48 * 16 + 2 ^ 64 * 4 + 2 ^ 80 * depth + 2 ^ 88 * 1 + 2 ^ 96 * gap + 2 ^ 512 * d.raw.toNat
      + 2 ^ 8160 * sequence)

/-- Pool 0 has two slots at 2000H. -/
def pools : Vector (Option PoolDefinition) 4 := #v[some { address := 0x2000, count := 2 }, none, none, none]

/-- The plan of that page. -/
def plan : Plan := Page.record (page 7 10 100 small) 7

/-- A view frame of view 0 under that plan. -/
def viewFrame : ViewFrame := newFrame plan small (derivedSizes 1 small) 5 100 0

/-- A TAKEN slot of view 0 for frame 5. -/
def slot : Slot := { pool := 0, index := 1, address := 0x4000, capacity := 4096, word := 0x00050002 }

/-- The same view frame with a claimed slot. -/
def holding (f : FirstWrite) : ViewFrame :=
  { viewFrame with
    claimInFlight := false
    firstWrite := f
    slot := some { slot with word := if f = .exchanged then 0x00050003 else 0x00050002 } }

/-- Channel 0 in a state with a view frame. -/
def carrying (state : ChannelState) (v : ViewFrame) (s : State) : State :=
  { s with channels := s.channels.set 0 { state := state, frame := some v, tally := Tally.initial } }

/-- Pool 0's scanner, at slot 1 of two, serving view 0. -/
def serving (visited : Nat) (record : Option (BitVec 128)) (s : State) : State :=
  { s with
    scanners :=
      s.scanners.set 0
        { definition := pools[0]
          cursor := 1
          state := .ready
          queue := []
          service := some { request := { view := 0, needed := 448, tag := 5 }, index := 1, visited := visited, slot := record } } }

/-- A slot record: slot word, capacity, buffer address. -/
def record (word : Word) (capacity : Word) (address : DWord) : BitVec 128 := address ++ capacity ++ word

/-- A header with its check (spec 04 R63, R64). -/
def header (kind number length lanes : Nat) : BitVec 64 :=
  let bytes := leBytes 1 kind ++ leBytes 2 number ++ leBytes 3 length ++ leBytes 1 lanes
  BitVec.ofNat 64 (leValue (bytes ++ [crc8 bytes]))

/-- Bytes on lane 0 alone. -/
def onLane (bytes : List Byte) : LaneRuns := runOn 0 ⟨bytes, 0⟩

/-- A header on lane 0. -/
def headerRuns (h : BitVec 64) : LaneRuns := onLane (headerBytes h)

/-- Payload and trailer on lane 0. -/
def body (payload : List Byte) : LaneRuns :=
  onLane (if payload = [] then [] else payload ++ leBytes 4 (crc32 payload).toNat)

/-- The last byte of a packet, with no step taken between its notices. -/
def packetEnd (payload : List Byte) : Instr := .packetComplete ⟨body payload, []⟩

/-- Bytes a lane holds, all of one arrival. -/
def heldBytes (bytes : List Byte) : List LaneByte := bytes.map fun b => ⟨b, 0⟩

/-- The receiver in a state and phase, one lane in use. -/
def receiver (state : ReceiverState) (phase : ReceiverPhase) (s : State) : State :=
  { s with receiver := { Receiver.initial with state := state, phase := phase, lanes := 1 } }

/-- LOCKED with a packet's payload to come. -/
def receiving (h : BitVec 64) (s : State) : State :=
  { s with
    receiver := { Receiver.initial with state := .locked, phase := .payload, lanes := 1, packet := some h } }

/-- The tracker in a frame of 16 by `height` pixels of 10 bits, number 5, with a gap limit of 100. -/
def inFrame (state : TrackerState) (height next : Nat) (s : State) : State :=
  { s with
    tracker :=
      { Tracker.initial with
        state := state, frameNumber := 5, width := 16, height := BitVec.ofNat 16 height, depth := 10, nextRow := next,
        deadline := some 100, gapLimit := 100, currentBank := 0, framesStarted := 1 } }

/-- The alignment word on lanes 0 and 1, their first bytes arriving at the periods given. -/
def boundary (a b : Nat) : LaneRuns := (runOn 0 ⟨alignmentWord, a⟩).set 1 ⟨alignmentWord, b⟩

/-- The plan in force, with a scanner for pool 0. -/
def planned (s : State) : State :=
  { s with
    plan := { s.plan with adopted := some plan }
    run := { s.run with pools := pools }
    scanners := s.scanners.set 0 { Scanner.initial with definition := pools[0] } }

/-- 16 pixels of 10 bits, all of one value. -/
def flatRow (value : Nat) : List Byte :=
  leBytes 20 ((List.range 16).map fun k => value * 2 ^ (10 * k)).sum

/-! ### Commands their rows do not describe -/

theorem test_knownCodeIsNotUnknown :
    [1, 2, 3, 4, 5].all (fun c => !(Instr.unknownCode c).wellFormed) = true ∧ (Instr.unknownCode 0).wellFormed = true
      ∧ (Instr.unknownCode 6).wellFormed = true ∧ (Instr.unknownCode 0xFFFFFFFF).wellFormed = true := by decide +kernel

theorem test_effectiveWriteIsNotIgnored :
    let ignored (offset width : Nat) : Bool := (Instr.ignoredRegisterWrite offset width 1).wellFormed
    [0x04, 0x08, 0x0C, 0x10, 0x14].all (fun o => !ignored o 4) = true
      ∧ [0x00, 0x04, 0x08, 0x0C, 0x10].all (fun o => !ignored o 8) = true
      ∧ ignored 0x04 0 = false ∧ ignored 0x04 5 = false ∧ ignored 0x1C 8 = false ∧ ignored 0x18 8 = true
      ∧ ignored 0x04 3 = true ∧ ignored 0x00 4 = true ∧ ignored 0x1C 4 = true := by decide +kernel

theorem test_runsAreBounded :
    eachLaneAtMost 3 (onLane [1, 2, 3, 4]) = false ∧ eachLaneAtMost 4 (onLane [1, 2, 3, 4]) = true
      ∧ longestRun = 16777231 := by decide +kernel

/-- An event of the link is refused if a lane carries more than the longest packet and its alignment word. -/
theorem test_longRunsRefused (bytes : List Byte) (between : List NoticeStep) (h : 16777231 < bytes.length) :
    [Instr.alignmentWordMatch 2 ⟨bytes, 0⟩, .verifyHeader (onLane bytes), .verifyBoundary (onLane bytes),
      .lockedBoundary (onLane bytes), .lockedHeader (onLane bytes), .boundarySearch (onLane bytes),
      .packetComplete ⟨onLane bytes, between⟩].all (fun c => !c.wellFormed) = true := by
  have : ¬bytes.length ≤ longestRun := by unfold longestRun; omega
  simp [Instr.wellFormed, eachLaneAtMost, onLane, runOn, noBytes, this]

theorem test_noWordSpellsACommand : decodeTableWord 8 1 = none ∧ State.reset.withFetchWord 8 1 = State.reset := by
  decide +kernel

/-! ### The spec's worked numbers -/

/-- Table 11-14. -/
theorem test_checkCodes :
    crc8 [0x31, 0x32, 0x33, 0x34, 0x35, 0x36, 0x37, 0x38, 0x39] = 0xF4
      ∧ crc32 [0x31, 0x32, 0x33, 0x34, 0x35, 0x36, 0x37, 0x38, 0x39] = 0xCBF43926
      ∧ leBytes 4 0xCBF43926 = [0x26, 0x39, 0xF4, 0xCB] := by decide +kernel

/-- Table 4-1: lane shares. -/
theorem test_laneShares :
    (laneShare 2 17 0, laneShare 2 17 1) = (9, 8) ∧ (laneShare 4 17 0, laneShare 4 17 1, laneShare 4 17 3) = (5, 4, 4)
      ∧ (laneShare 4 13 0, laneShare 4 13 1) = (4, 3) ∧ laneShare 2 8 1 = 4 ∧ laneShare 4 3084 3 = 771 := by decide +kernel

/-- Rule R67: 12-bit and 10-bit pixels in their bytes. -/
theorem test_pixelPacking :
    pixelAt 12 (pixelStream [0x34, 0xA2, 0x9B]) 0 = 0x234 ∧ pixelAt 12 (pixelStream [0x34, 0xA2, 0x9B]) 1 = 0x9BA
      ∧ pixelAt 10 (pixelStream [0xFF, 0x03, 0x00, 0x40, 0x80]) 0 = 0x3FF
      ∧ pixelAt 10 (pixelStream [0xFF, 0x03, 0x00, 0x40, 0x80]) 3 = 0x201 := by decide +kernel

/-- Table 1-7: derived sizes of the four views of the example plan, and their line blocks. -/
theorem test_derivedSizes :
    (let z := derivedSizes 2 (descriptor 3000 4096 1 1 0 256 16 0 0 1 0 0 [1] [1])
     (z.outWidth, z.outHeight, z.stride, z.neededBytes, z.accumulatorBlocks, z.stagingBlocks)
      = (4096, 3000, 8192, 24576256, 128, 128))
    ∧ (let z := derivedSizes 2 (descriptor 3000 4096 2 2 0 256 8 0 0 1 0 100 [1, 1] [1, 1])
       (z.outWidth, z.outHeight, z.metadataArea, z.neededBytes, z.lineBlocks) = (2048, 1500, 128, 3072384, 96))
    ∧ (let z := derivedSizes 2 (descriptor 600 810 1 1 0 256 10 0 0 1 0 0 [1] [1])
       (z.outWidth, z.rowBytes, z.stride, z.neededBytes, z.accumulatorBlocks, z.stagingBlocks)
        = (810, 1620, 1664, 998656, 26, 26))
    ∧ (let z := derivedSizes 2 (descriptor 2992 4096 8 8 0 256 12 0 0 1 0 0 [1] [1])
       (z.outWidth, z.outHeight, z.neededBytes, z.lineBlocks) = (512, 374, 383232, 32)) := by decide +kernel

/-- Table 8-4: conditioning with offset 64 and gain 320, at 8 and 16 bits; Table 8-1 at its corners. -/
theorem test_conditioning :
    (let d := descriptor 4 16 2 2 64 320 8 0 0 1 0 0 [1] [1]
     [0, 50, 1000, 3000, 3340, 4095].map (storedPixel 12 d) = [0, 0, 73, 229, 255, 255]
      ∧ clippedIn 12 d [0, 50, 1000, 3000, 3340, 4095] = 2)
    ∧ (let d := descriptor 4 16 2 2 64 320 16 0 0 1 0 0 [1] [1]
       [0, 50, 1000, 3000, 3340, 4095].map (storedPixel 12 d) = [0, 0, 18720, 58720, 65520, 65535]
        ∧ clippedIn 12 d [0, 50, 1000, 3000, 3340, 4095] = 1)
    ∧ (depthStep 14 8 31, depthStep 14 8 32, depthStep 10 16 3) = (0, 1, 192) := by decide +kernel

/-- Table 7-1: rows of a window that starts at row 4, with two colour phases and two cells to a group. -/
theorem test_rowPlacement :
    let d : Descriptor := { raw := (descriptor 8 8 2 2 0 256 12 0 0 1 0 0 [1, 3] [1, 1]).raw ||| 4 }
    ([3, 12].map (placeRow 2 d) = [none, none])
      ∧ [4, 5, 6, 7, 8, 11].map (fun r => (placeRow 2 d r).map fun x => (x.phase, x.group, x.position, x.weight, x.last))
        = [some (0, 0, 0, 1, false), some (1, 0, 0, 1, false), some (0, 0, 1, 3, false), some (1, 0, 1, 3, true),
          some (0, 1, 0, 1, false), some (1, 1, 1, 3, true)]
      ∧ [0, 1, 2, 3].map (fun m => [inputColumn 2 d m 0, inputColumn 2 d m 1]) = [[0, 2], [1, 3], [4, 6], [5, 7]] := by
  decide +kernel

/-- Table 7-5: finalized output values. -/
theorem test_outputValues :
    [outputValue 8 910, outputValue 2 410, outputValue 0 0, outputValue 8 1516] = [114, 205, 0, 190] := by decide +kernel

/-- Rule R24 and Table 11-9: the TAKEN word of view 3 in frame 0123H, and a code above 06H. -/
theorem test_slotWords :
    freshSlotWord .taken 3 0x0123 = 0x01230302 ∧ withSlotState 0x01230302 .filling = 0x01230303
      ∧ slotState 0x07 = .held ∧ slotState 0x06 = .refused ∧ slotState 0xFFFFFF01 = .offered := by decide +kernel

/-- Rule R83: selection by frame number, at the wrap too. -/
theorem test_selection :
    let p : Plan := { plan with views := Vector.replicate 8 (descriptor 4 16 2 2 0 256 8 0 1 10 3 0 [1, 1] [1, 1]) }
    p.selects 0 65533 = true ∧ p.selects 0 3 = true ∧ p.selects 0 65535 = false ∧ p.selects 1 3 = false := by decide +kernel

/-- The judgement of a page, reason by reason (rule R19). -/
theorem test_judgement :
    judgePage pools 7 (page 7 10 100 small) = .valid plan
      ∧ judgePage pools 8 (page 7 10 100 small) = .rejected .tornPage 0xFF
      ∧ judgePage pools 7 (page 7 11 100 small) = .rejected .badHeader 0xFF
      ∧ judgePage pools 7 (page 7 10 1000001 small) = .rejected .badHeader 0xFF
      ∧ judgePage pools 7 (page 7 10 100 (descriptor 5 16 2 2 0 256 8 0 1 1 0 64 [1, 1] [1, 1])) = .rejected .badView 0
      ∧ judgePage #v[none, none, none, none] 7 (page 7 10 100 small) = .rejected .badPool 0 := by decide +kernel

/-- The bits of RUN: rule R163's 00000103H and Table 10-8's 00000705H. -/
theorem test_runRegister :
    (after .stop (inRun .running)).readRegister 0x04 = 0x00000103
      ∧ (after .clearFault (writing .linkTally (inRun .fault))).readRegister 0x04 = 0x00000705
      ∧ State.reset.readRegister 0x00 = 0x42080001
      ∧ (inFrame .body 4 0 (receiver .locked .header (inRun .running))).readRegister 0x18 = 0x113 := by decide +kernel

/-! ### Witnesses: for each statement with hypotheses, a state and operands that meet them, clause by clause -/

theorem witness_StepRunsFrontCommand :
    ({ State.reset with pending := [.start, .stop] } : State).pending = .start :: [.stop] := by decide +kernel

/-- With no command waiting: the gap deadline, RUN_STOPPED, an entry to SEALING, an admission, a claim service, and nothing due. -/
theorem witness_EmptyQueueStep :
    let running := inRun .running
    let asked : State := running.ask .linkTally
    let sealing := carrying .flushing (holding .exchanged) asked
    let queued : Scanner :=
      { definition := pools[0], cursor := 1, state := .ready, queue := [{ view := 0, needed := 448, tag := 5 }], service := none }
    let served (s : State) : State := { s with scanners := s.scanners.set 0 queued }
    State.reset.pending = [] ∧ State.reset.ownStep = none
      ∧ ({ inFrame .body 4 1 (inRun .stopping) with timebase := 100 } : State).ownStep = some .gapTimeout
      ∧ ({ inFrame .body 4 1 sealing with timebase := 100 } : State).ownStep = some .gapTimeout
      ∧ (inRun .stopping).ownStep = some .runStopped ∧ sealing.ownStep = some (.sealingEntry 0)
      ∧ (served asked).ownStep = some .admission ∧ (served running).ownStep = some (.claimServiceStart 0)
      ∧ running.ownStep = none := by decide +kernel

theorem witness_CommandsKeepQueueAndEnables :
    (Instr.unknownCode 6).wellFormed = true ∧ Instr.unknownCode 6 ≠ .powerOnReset ∧ Instr.unknownCode 6 ≠ .portReset := by
  decide +kernel

theorem witness_RunCommandsJudged :
    acceptedIn .start .starting = false ∧ acceptedIn .stop .stopping = false ∧ acceptedIn .abort .aborting = false
      ∧ acceptedIn .clearFault .stopped = false
      ∧ (Instr.unknownCode 0).wellFormed = true ∧ (Instr.unknownCode 6).wellFormed = true
      ∧ ({ State.reset with run := { RunControl.initial with anchor := 4095 } } : State).run.anchor.toNat % 4096 ≠ 0
      ∧ ({ State.reset with run := { RunControl.initial with anchor := 4097 } } : State).run.anchor.toNat % 4096 ≠ 0
      ∧ (writing .linkTally (inRun .fault)).outstandingCount ≠ 0 ∧ (reading .selector (inRun .fault)).outstandingCount ≠ 0
      ∧ acceptedIn .start .stopped = true ∧ State.reset.run.anchor.toNat % 4096 = 0 ∧ acceptedIn .stop .running = true
      ∧ acceptedIn .abort .starting = true ∧ acceptedIn .abort .stopping = true
      ∧ acceptedIn .clearFault .fault = true ∧ (inRun .fault).outstandingCount = 0
      ∧ (writing .adoptionWord (inRun .starting)).awaitsWrite 0 .adoptionWord
      ∧ ((inRun .starting).setProgress .adopted).run.progress = .adopted
      ∧ ((inRun .starting).setProgress .failed).run.progress = .failed := by decide +kernel

theorem witness_StartAndStopAccepted :
    State.reset.run.state = .stopped ∧ State.reset.run.anchor.toNat % 4096 = 0
      ∧ (0xFFFFFFFFFFFFF000 : DWord).toNat % 4096 = 0 ∧ (inRun .running).run.state = .running := by decide +kernel

theorem witness_AbortInStarting :
    (inRun .starting).run.state = .starting
      ∧ [PortRole.linkWord, .poolTable, .startSelector, .startPage].all
          (fun r => decide ((reading r (inRun .aborting)).awaits 0 r)) = true := by decide +kernel

/-- ABORT with a channel CLAIMING, and ACTIVE at each stage of its first write; in HEADER an ACTIVE channel with a TAKEN slot gives it
back, and no copy comes due. -/
theorem witness_AbortInRun :
    let s (tracker : TrackerState) (state : ChannelState) (v : ViewFrame) : State :=
      let x := carrying state v (inFrame tracker 4 1 (planned (inRun .running)))
      { x with tracker := { x.tracker with banks := x.tracker.banks.set 0 { bytes := [7], rows := 1, truncated := false } } }
    let t (x : State) : State := after .abort x
    let seen (x : State) : ChannelState × Option CopyProgress × List PortAccess :=
      ((x.channel 0).state, (x.channel 0).frame.map ViewFrame.copy, x.port.entries.map PortEntry.access)
    (s .body .claiming viewFrame).run.state = .running ∧ (inRun .stopping).run.state = .stopping
      ∧ (s .body .claiming viewFrame).tracker.state ≠ .idle ∧ viewFrame.abandoned = none
      ∧ (∀ f, (holding f).abandoned = none) ∧ ((s .body .claiming viewFrame).channel 7).state = .idle
      ∧ seen (t (s .header .claiming viewFrame)) = (.returning, some .notDue, [])
      ∧ seen (t (s .header .active (holding .notIssued)))
        = (.returning, some .notDue, [.compareExchange 0x2010 0x00050002 0x00050001])
      ∧ seen (t (s .header .active (holding .outstanding))) = (.flushing, some .notDue, [])
      ∧ seen (t (s .body .active { holding .exchanged with copy := .outstanding })) = (.flushing, some .outstanding, [])
      ∧ (t (s .header .active (holding .notIssued))).tracker.framesTruncated = 1 := by
  refine ⟨rfl, rfl, by decide +kernel, rfl, fun f => ?_, ?_⟩
  · cases f <;> rfl
  · decide +kernel

theorem witness_ClearFaultAndFaultState :
    (inRun .aborting).run.state ≠ .fault ∧ (inRun .fault).run.state = .fault ∧ (inRun .fault).port.entries = []
      ∧ (inRun .fault).queue.entries = [] ∧ (reading .selector (inRun .fault)).port.entries ≠ []
      ∧ (writing .linkTally (inRun .fault)).queue.entries ≠ []
      ∧ answersTo (.selectorAnswer 0 .error) .selector = some 0 ∧ (reading .selector (inRun .fault)).awaits 0 .selector
      ∧ respondsTo (.linkTallyResponse 0 .ok) .linkTally = some 0
      ∧ (writing .linkTally (inRun .fault)).awaitsWrite 0 .linkTally
      ∧ exec .start (inRun .fault) = .next (after .start (inRun .fault)) := by
  refine ⟨by decide +kernel, rfl, rfl, rfl, by decide +kernel, by decide +kernel, rfl, by decide +kernel, rfl,
    by decide +kernel, rfl⟩

theorem witness_ResetsSetEveryBlock :
    answersTo (.claimAnswer 3 .exchanged) (.claim 2) = some 3 ∧ respondsTo (.rowWriteResponse 3 .ok) (.row 1 2 3) = some 3 := by
  decide +kernel

theorem witness_AttentionFlags :
    (0x2000 : Word).getLsbD AttentionCause.fault.bit = true ∧ (0x0001 : Word).getLsbD AttentionCause.frameFilled.bit = true
      ∧ exec .stop State.reset = .next (after .stop State.reset) := ⟨by decide +kernel, by decide +kernel, rfl⟩

theorem witness_EnablesAndInterruptLine :
    let s : State := { State.reset with attention := { flags := 0x2001, enables := 0x3001 } }
    s.attention.enables.getLsbD AttentionCause.fault.bit = true ∧ s.interruptLine = true
      ∧ s.flagged .fault = true ∧ (0x2000 : Word).getLsbD AttentionCause.fault.bit = true
      ∧ ∀ i, i < 14 → s.attention.flags.getLsbD i = true → s.attention.enables.getLsbD i = true →
          (0x2001 : Word).getLsbD i = true := by decide +kernel

theorem witness_AnchorWrites :
    State.reset.run.state = .stopped ∧ (inRun .starting).run.state ≠ .stopped ∧ (inRun .fault).run.state ≠ .stopped := by
  decide +kernel

theorem witness_WindowIgnoresAndNarrowReads :
    let s := inRun .stopped
    let wide (offset : Nat) (value : DWord) : State := after (.ignoredRegisterWrite offset 8 value) s
    (Instr.ignoredRegisterWrite 0x04 3 5).wellFormed = true ∧ (Instr.ignoredRegisterWrite 0x18 8 5).wellFormed = true
      ∧ 0x1C ∉ [0x00, 0x04, 0x08, 0x0C, 0x10, 0x14, 0x18] ∧ 3 < 4 ∧ 0x18 % 4 + 4 ≤ 4 ∧ 0 < 1 ∧ 0x1B % 4 + 1 ≤ 4
      ∧ 0x14 % 8 ≠ 0 ∧ (wide 0x10 0x1122334455667000).run.anchor = 0x1122334455667000
      ∧ wide 0x14 0x1122334455667000 = s
      ∧ ((wide 0x08 0x0000000500000000).attention.enables, (wide 0x00 0x0000000900000000).run.result) = (5, .refusedCode)
      ∧ (wide 0x10 0x1122334455667000).readWindow 0x10 8 = [0x00, 0x70, 0x66, 0x55, 0x44, 0x33, 0x22, 0x11]
      ∧ s.readWindow 0x02 2 = [0x08, 0x42] ∧ s.readWindow 0x1A 2 = [0x00, 0x00] ∧ s.readWindow 0x1D 3 = [0, 0, 0]
      ∧ [0x01, 0x05, 0x1C].all (fun o => s.readWindow o 4 = [0, 0, 0, 0] ∧ s.readWindow o 8 = List.replicate 8 0) = true
      ∧ s.readWindow 0x03 2 = [0x42] ∧ s.readWindow 0x00 4 = [0x01, 0x00, 0x08, 0x42] := by decide +kernel

theorem witness_IdentAndLinkStatus :
    let s := inFrame .header 4 0 (receiver .locked .header (inRun .running))
    State.reset.receiverBounded ∧ s.receiverBounded ∧ exec .reset s = .next (after .reset s) := by
  refine ⟨?_, ?_, rfl⟩ <;> unfold State.receiverBounded <;> decide +kernel

/-- Two lanes: the second arrival 16 byte periods after the first completes a boundary, 17 does not, in HUNT and in the search of LOCKED;
bytes before the word are passed over and bytes after it stay held. BOUNDARY_SEARCH takes words until they make a boundary. -/
theorem witness_AlignmentWordSearches :
    let s (state : ReceiverState) (phase : ReceiverPhase) (position : Option Nat) : State :=
      { inRun .running with
        receiver :=
          { Receiver.initial with state := state, phase := phase, lanes := 2, positions := #v[position, none, none, none] } }
    let hunt := s .hunt .idle (some 100)
    let search := s .locked .search (some 100)
    let word (arrival : Nat) (x : State) : Receiver :=
      (after (.alignmentWordMatch 1 ⟨[9] ++ alignmentWord ++ [8], arrival - 1⟩) x).receiver
    let both (a b : Nat) : Receiver := (after (.boundarySearch (boundary a b)) (s .locked .search none)).receiver
    (1 : LaneId).val < hunt.receiver.lanes ∧ hunt.receiver.lanes ≤ (2 : LaneId).val
      ∧ ((word 116 hunt).state, (word 116 hunt).phase, (word 116 hunt).held[1]) = (.verify, .header, [⟨8, 120⟩])
      ∧ (word 117 hunt).state = .hunt ∧ (word 117 hunt).positions = #v[some 100, some 117, none, none]
      ∧ ((word 116 search).state, (word 116 search).phase) = (.locked, .header) ∧ (word 117 search).phase = .search
      ∧ (word 116 (s .locked .boundary none)).positions = #v[none, none, none, none]
      ∧ ((both 0 16).phase, (both 0 17).phase, (both 0 17).positions) = (.header, .search, #v[some 0, some 17, none, none])
      ∧ (both 5 2).positions = #v[some 5, some 2, none, none]
      ∧ (after (.boundarySearch (onLane [1, 2, 3, 4, 5])) (s .locked .search none)).receiver.held[0].length = 5
      ∧ after (.alignmentWordMatch 0 ⟨alignmentWord, 0⟩) (s .off .idle none) = s .off .idle none := by decide +kernel

theorem witness_wordsAndBoundaries :
    WordAt (heldBytes [9, 0x5A, 0xC3, 0x3C, 0xA5]) 1 ∧ ¬WordAt (heldBytes [9, 0x5A, 0xC3, 0x3C, 0xA5]) 0
      ∧ FirstWord (heldBytes [9, 0x5A, 0xC3, 0x3C, 0xA5]) 1 0 := by
  refine ⟨rfl, by unfold WordAt; decide +kernel, rfl, fun m h => ?_, rfl⟩
  obtain rfl : m = 0 := by omega
  unfold WordAt
  decide +kernel

theorem witness_PayloadLengthsAccepted :
    let s := inFrame .body 4 1 (inRun .running)
    s.tracker.state ≠ .idle ∧ s.lengthAccepted .pixelRow 20 = true ∧ s.lengthAccepted .pixelRow 19 = false
      ∧ s.lengthAccepted .pixelRow 21 = false ∧ State.reset.tracker.state = .idle
      ∧ State.reset.lengthAccepted .pixelRow 14336 = true ∧ State.reset.lengthAccepted .pixelRow 14337 = false
      ∧ State.reset.lengthAccepted .metaRow 0 = false ∧ State.reset.lengthAccepted .metaRow 4097 = false := by decide +kernel

theorem witness_StripingRebuilds :
    stripeOver 2 [1, 2, 3] = #v[[1, 3], [2], [], []]
      ∧ rebuild 4 ((stripeOver 4 [1, 2, 3, 4, 5]).set 1 [2, 9]) 5 = some [1, 2, 3, 4, 5]
      ∧ rebuild 2 (stripeOver 2 [1, 2, 3]) 4 = none ∧ (1 : LaneId).val < 2
      ∧ ((stripeOver 2 [1, 2, 3])[1]).length < laneShare 2 4 1 ∧ ((stripeOver 2 [1, 2, 3])[0]).length = laneShare 2 4 0 := by
  decide +kernel

/-- A FRAME_START of 5 bytes passes in VERIFY; one of 6, or one sent for two lanes, does not; seven bytes are held. -/
theorem witness_HeaderInVerify :
    let s := receiver .verify .header (inRun .running)
    let good := header 1 5 5 1
    let t (bytes : List Byte) : Receiver := (after (.verifyHeader (onLane bytes)) s).receiver
    s.receiver.state = .verify ∧ s.receiver.phase = .header
      ∧ rebuild 1 (valuesOf (s.receiver.holding (headerRuns good))) 8 = some (headerBytes good)
      ∧ rebuild 1 (valuesOf (s.receiver.holding (onLane [1, 2, 3, 4, 5, 6, 7]))) 8 = none
      ∧ headerGood 1 good = true ∧ headerKind good = some .frameStart
      ∧ headerLength good = 5 ∧ headerLength (header 1 5 6 1) = 6 ∧ headerGood 1 (header 1 5 5 2) = false
      ∧ ((t (headerBytes good ++ [7])).verifyCount, (t (headerBytes good ++ [7])).held[0]) = (1, [⟨7, 8⟩])
      ∧ (t (headerBytes (header 1 5 6 1))).state = .hunt
      ∧ ((t [1, 2, 3]).phase, (t [1, 2, 3]).held[0].length) = (.header, 3) := by decide +kernel

/-- After a FRAME_START of 5 bytes the boundary stands 9 bytes on. -/
theorem witness_VerifyToLocked :
    let s (count held : Nat) : State :=
      { inRun .running with
        receiver :=
          { Receiver.initial with
            state := .verify, phase := .boundary, lanes := 1, verifyCount := count, packet := some (header 1 5 5 1)
            held := #v[heldBytes (List.replicate held 0), [], [], []] } }
    let t (count held : Nat) (bytes : List Byte) : Receiver := (after (.verifyBoundary (onLane bytes)) (s count held)).receiver
    (s 2 0).receiver.state = .verify ∧ (s 2 0).receiver.phase = .boundary ∧ (s 2 0).receiver.verifyCount < 3
      ∧ (s 2 0).receiver.toBoundary 0 = 9 ∧ (s 3 0).receiver.verifyCount = 3
      ∧ (t 2 9 (alignmentWord ++ [7])).phase = .header ∧ (t 2 9 (alignmentWord ++ [7])).held[0] = [⟨7, 4⟩]
      ∧ (t 2 9 [0x5A, 0xC3, 0x3C]).phase = .boundary ∧ (t 2 9 [0x5A, 0xC3, 0x3C]).held[0].length = 12
      ∧ (t 2 8 alignmentWord).phase = .boundary ∧ (t 2 10 alignmentWord).state = .hunt
      ∧ (after .verifyExtentEnd (s 3 9)).flagged .linkLocked = true
      ∧ (after .verifyExtentEnd (s 3 8)).receiver.state = .verify
      ∧ (after .verifyExtentEnd (s 2 9)).receiver.state = .verify := by decide +kernel

theorem witness_BoundaryInLocked :
    let s := receiver .locked .boundary (inRun .running)
    let t (bytes : List Byte) : State := after (.lockedBoundary (onLane bytes)) (inFrame .body 4 1 s)
    s.receiver.state = .locked ∧ s.receiver.phase = .boundary ∧ s.tracker.state = .idle
      ∧ (inFrame .body 4 1 s).tracker.state ≠ .idle
      ∧ (t alignmentWord).receiver.phase = .header ∧ (t [0x5A, 0xC3, 0x3C]).receiver.phase = .boundary
      ∧ ((t [0, 0, 0, 0]).receiver.state, (t [0, 0, 0, 0]).tracker.framesTruncated, (t [0, 0, 0, 0]).flagged .linkLost)
        = (.hunt, 1, true) := by decide +kernel

/-- In LOCKED: a good FILL; a FILL of one byte; an unknown kind; a failed check; the second header that is not good; seven bytes. -/
theorem witness_HeaderInLocked :
    let s := receiver .locked .header (inRun .running)
    let bad : State := { s with receiver := { s.receiver with badCount := 1 } }
    let t (h : BitVec 64) (x : State) : Receiver := (after (.lockedHeader (headerRuns h)) x).receiver
    s.receiver.state = .locked ∧ s.receiver.phase = .header
      ∧ rebuild 1 (valuesOf (s.receiver.holding (headerRuns (header 15 0 0 1)))) 8 = some (headerBytes (header 15 0 0 1))
      ∧ headerGood 1 (header 15 0 0 1) = true ∧ s.lengthAccepted .fill 0 = true ∧ s.lengthAccepted .fill 1 = false
      ∧ headerGood 1 (header 5 0 0 1) = false ∧ headerCheckPasses (header 5 0 0 1) = true ∧ s.receiver.badCount = 0
      ∧ headerCheckPasses (header 15 0 0 1 ^^^ 1) = false ∧ bad.receiver.badCount = 1
      ∧ (t (header 15 0 0 1) s).phase = .payload
      ∧ ((t (header 15 0 1 1) s).phase, (t (header 15 0 1 1) s).lengthErrors) = (.boundary, 1)
      ∧ (t (header 5 0 0 1) s).phase = .boundary ∧ (t (header 15 0 0 1 ^^^ 1) s).phase = .search
      ∧ (t (header 5 0 0 1) bad).lockLosses = 1
      ∧ (after (.lockedHeader (onLane [1, 2, 3, 4, 5, 6, 7])) s).receiver.held[0].length = 7 := by decide +kernel

/-- The alignment word and a header arrive ahead of the packets they belong to, and are held: a FILL follows a FILL. -/
theorem test_surplusIsHeld :
    let s := receiver .locked .boundary (inRun .running)
    let bytes := alignmentWord ++ headerBytes (header 15 0 0 1)
    let t := after (.lockedBoundary (onLane (bytes ++ bytes))) s
    let u := after (.packetComplete ⟨noBytes, []⟩) (after (.lockedHeader noBytes) t)
    let w := after (.packetComplete ⟨noBytes, []⟩) (after (.lockedHeader noBytes) (after (.lockedBoundary noBytes) u))
    (t.receiver.phase, u.receiver.phase, u.receiver.held[0].length) = (.header, .boundary, 12)
      ∧ (w.receiver.phase, w.receiver.held[0], w.receiver.headerErrors) = (.boundary, [], 0) := by decide +kernel

/-- A packet whose bytes have all arrived, and whose trailer matches, completes. -/
theorem completes_of (s : State) (h : BitVec 64) (payload : List Byte)
    (hl : headerLength h = payload.length)
    (hr : rebuild 1 (valuesOf ((receiving h State.reset).receiver.holding (body payload))) (bodyBytes (headerLength h)) =
      some (payload ++ leBytes 4 (crc32 payload).toNat))
    (hc : leValue (leBytes 4 (crc32 payload).toNat) = (crc32 payload).toNat) :
    (receiving h s).completes (body payload) h payload := by
  refine ⟨rfl, rfl, rfl, _, hr, ?_, Or.inr ?_⟩
  · simp [hl]
  · simp [hl, leBytes] at hc ⊢
    exact hc

theorem witness_fill (s : State) : (receiving (header 15 0 0 1) s).completes (body []) (header 15 0 0 1) [] := by
  have carried : rebuild 1 (valuesOf ((receiving (header 15 0 0 1) State.reset).receiver.holding (body [])))
      (bodyBytes (headerLength (header 15 0 0 1))) = some [] := by decide +kernel
  exact ⟨rfl, rfl, rfl, [], carried, by decide +kernel, Or.inl (by decide +kernel)⟩

theorem witness_frameEnd (s : State) : (receiving (header 4 5 0 1) s).completes (body []) (header 4 5 0 1) [] := by
  have carried : rebuild 1 (valuesOf ((receiving (header 4 5 0 1) State.reset).receiver.holding (body [])))
      (bodyBytes (headerLength (header 4 5 0 1))) = some [] := by decide +kernel
  exact ⟨rfl, rfl, rfl, [], carried, by decide +kernel, Or.inl (by decide +kernel)⟩

theorem witness_metaRow (s : State) : (receiving (header 2 0 3 1) s).completes (body [7, 8, 9]) (header 2 0 3 1) [7, 8, 9] :=
  completes_of s _ _ (by decide +kernel) (by decide +kernel) (by decide +kernel)

theorem witness_frameStart (s : State) :
    (receiving (header 1 6 5 1) s).completes (body [16, 0, 4, 0, 10]) (header 1 6 5 1) [16, 0, 4, 0, 10] :=
  completes_of s _ _ (by decide +kernel) (by decide +kernel) (by decide +kernel)

theorem witness_pixelRow (s : State) :
    (receiving (header 3 1 20 1) s).completes (body (flatRow 100)) (header 3 1 20 1) (flatRow 100) :=
  completes_of s _ _ (by decide +kernel) (by decide +kernel) (by decide +kernel)

/-- The kinds of those packets; a packet cut short, and one with a wrong trailer. -/
theorem witness_PacketsNotPassedOn :
    let s := receiving (header 2 0 3 1) (inRun .running)
    let carried (bytes : List Byte) := rebuild 1 (valuesOf (s.receiver.holding (onLane bytes))) (bodyBytes 3)
    [15, 4, 2, 1, 3].map (fun k => headerKind (header k 0 0 1)) =
        [some .fill, some .frameEnd, some .metaRow, some .frameStart, some .pixelRow]
      ∧ s.receiver.phase = .payload ∧ s.receiver.packet = some (header 2 0 3 1) ∧ headerLength (header 2 0 3 1) = 3
      ∧ carried [7, 8, 9] = none ∧ carried [7, 8, 9, 0, 0, 0, 0] = some [7, 8, 9, 0, 0, 0, 0]
      ∧ leValue [0, 0, 0, 0] ≠ (crc32 [7, 8, 9]).toNat ∧ s.tracker.state = .idle
      ∧ (after (.packetComplete ⟨onLane [7, 8, 9, 0, 0, 0, 0], []⟩) s).receiver.checkErrors = 1
      ∧ (after (packetEnd [7, 8, 9]) s).tracker.strayPackets = 1
      ∧ (after (.lockedHeader (onLane [1])) s).receiver.held[0].length = 1 := by decide +kernel

/-- In HEADER with 3 rows a META_ROW is accepted, with 4 it is an order error; in BODY it is one too. -/
theorem witness_MetaRowInFrame :
    let s (rows : Nat) : State :=
      let x := inFrame .header 4 0 (inRun .running)
      { x with tracker := { x.tracker with banks := x.tracker.banks.set 0 { bytes := [1], rows := rows, truncated := false } } }
    ((s 3).tracker.banks[(s 3).tracker.currentBank]).rows < 4 ∧ 4 ≤ ((s 4).tracker.banks[(s 4).tracker.currentBank]).rows
      ∧ (s 3).tracker.state = .header ∧ (inFrame .body 4 1 State.reset).tracker.state = .body
      ∧ (after (packetEnd [7, 8, 9]) (receiving (header 2 0 3 1) (s 3))).tracker.banks[0].bytes = [1, 7, 8, 9]
      ∧ (after (packetEnd [7, 8, 9]) (receiving (header 2 0 3 1) (s 4))).tracker.orderErrors = 1 := by
  decide +kernel

/-- Row 1: in order after row 0 and after nothing, repeated, and beyond a frame of one row. -/
theorem witness_PixelRowInFrame :
    let row (height next : Nat) : Tracker :=
      (after (packetEnd (flatRow 100)) (receiving (header 3 1 20 1) (inFrame .body height next State.reset))).tracker
    (row 4 1).nextRow = 2 ∧ (row 4 0).nextRow = 2 ∧ ((row 4 2).nextRow, (row 4 2).orderErrors) = (2, 1)
      ∧ ((row 1 1).nextRow, (row 1 1).orderErrors) = (1, 1) ∧ (row 2 1).deadline = some 100
      ∧ ((State.reset.channel 7).state ≠ .claiming ∧ (State.reset.channel 7).state ≠ .active) := by decide +kernel

/-- The first row of a frame closes the metadata: an ACTIVE view with a TAKEN slot finds its copy due and issues its first write. -/
theorem test_metadataClosedByRow :
    let x := carrying .active (holding .notIssued) (inFrame .header 4 0 (planned (inRun .running)))
    let s : State :=
      { x with tracker := { x.tracker with banks := x.tracker.banks.set 0 { bytes := List.replicate 65 7, rows := 1, truncated := false } } }
    let t := after (packetEnd (flatRow 100)) (receiving (header 3 1 20 1) s)
    let v := (t.channel 0).frame
    (v.map ViewFrame.copy, v.map ViewFrame.copyLength, v.map ViewFrame.metaTruncated, v.map ViewFrame.missingRows)
        = (some .due, some 64, some true, some 1)
      ∧ t.port.entries.map PortEntry.access = [.compareExchange 0x2010 0x00050002 0x00050003] := by decide +kernel

/-- Six groups of one row each: row 5 resolves rows 0 to 4 missing. With no step between the notices the third group overflows, and so
it does if the staged rows are admitted and not answered; admitted and answered before the next notice, each group finds a place free, and
the window completes, also if the first write was still to be issued. A step that names row 6, which is not resolved, is not taken. -/
theorem test_stepsBetweenNotices :
    let d := descriptor 6 16 1 2 0 256 8 0 1 1 0 64 [1] [1, 1]
    let s (f : FirstWrite) : State :=
      receiving (header 3 5 20 1) (carrying .active { holding f with descriptor := d } (inFrame .body 6 0 (planned (inRun .running))))
    let seen (f : FirstWrite) (between : List NoticeStep) : Option (Nat × Option OutcomeCause × Nat × Bool) :=
      ((after (.packetComplete ⟨body (flatRow 100), between⟩) (s f)).channel 0).frame.map fun w =>
        (w.group, w.abandoned, w.rowsWritten, w.windowComplete)
    let admitted : List NoticeStep := [1, 2, 3, 4, 5].map fun r => ⟨r, .admission⟩
    let answered (first : Nat) : List NoticeStep :=
      [1, 2, 3, 4, 5].flatMap fun r => [⟨r, .admission⟩, ⟨r, .rowWriteResponse (first + r - 1) .ok⟩]
    [seen .exchanged [], seen .exchanged admitted, seen .exchanged [⟨6, .admission⟩], seen .exchanged (answered 0),
        seen .notIssued (⟨1, .firstWriteAnswer 0 true⟩ :: answered 1)] =
      [some (2, some .overrun, 0, false), some (2, some .overrun, 0, false), some (2, some .overrun, 0, false),
        some (5, none, 5, true), some (5, none, 5, true)] := by decide +kernel

/-- Row 1 ends group 0 of a view in production: with a place free it is staged, with both occupied the view frame is abandoned; an ACTIVE
view issues its first write, or gives its slot back; row 0 does not end the group, and row 4 is outside the window. -/
theorem witness_ArrivedRowReduced :
    let s (state : ChannelState) (v : ViewFrame) (staged : Nat) : State :=
      carrying state { v with staging := List.replicate staged { rows := [] } } (inFrame .body 4 1 (planned (inRun .running)))
    let t (state : ChannelState) (v : ViewFrame) (staged : Nat) : State :=
      after (packetEnd (flatRow 100)) (receiving (header 3 1 20 1) (s state v staged))
    let seen (t : State) : ChannelState × List PortAccess := ((t.channel 0).state, t.port.entries.map PortEntry.access)
    let last (f : FirstWrite) : ViewFrame := { holding f with group := 1 }
    (s .claiming viewFrame 1).live ∧ (s .claiming viewFrame 1).tracker.state = .body
      ∧ ((s .claiming viewFrame 1).channel 0).produces { viewFrame with staging := [{ rows := [] }] }
      ∧ (headerNumber (header 3 1 20 1)).toNat = 1 ∧ (s .claiming viewFrame 1).tracker.nextRow = 1
      ∧ (placeRow 1 small 1).map (fun x => (x.weight, x.last)) = some (1, true)
      ∧ (placeRow 1 small 0).map (fun x => (x.weight, x.last)) = some (1, false) ∧ placeRow 1 small 4 = none
      ∧ groupCount 1 small = 2
      ∧ (((t .claiming viewFrame 1).channel 0).frame.map fun v => (v.group, v.staging.length)) = some (1, 2)
      ∧ (((t .claiming viewFrame 2).channel 0).frame.map fun v => v.abandoned) = some (some .lateBuffer)
      ∧ seen (t .active (holding .notIssued) 0) = (.active, [.compareExchange 0x2010 0x00050002 0x00050003])
      ∧ seen (t .active (last .notIssued) 0) = (.flushing, [.compareExchange 0x2010 0x00050002 0x00050003])
      ∧ seen (t .active (last .exchanged) 1) = (.flushing, [])
      ∧ seen (t .active (holding .notIssued) 2) = (.returning, [.compareExchange 0x2010 0x00050002 0x00050001])
      ∧ (seen (t .active (holding .outstanding) 2)).1 = .flushing ∧ (seen (t .active (holding .exchanged) 2)).1 = .flushing := by
  decide +kernel

/-- A row at each edge of a window, a phase below its period, a divisor of 0 and one of 1, and present weights of both periods. -/
theorem witness_ReductionArithmetic :
    small.cellsV = 2 ∧ small.rowStart = 0 ∧ small.rowStart + small.rowCount = 4 ∧ 1 < 2 ∧ outputValue 1 7 = 7
      ∧ viewFrame.period = 1 ∧ viewFrame.present = [0] ∧ viewFrame.groupHoles = 1
      ∧ ({ viewFrame with period := 2, present := [0, 3] } : ViewFrame).groupHoles = 1 := by decide +kernel

/-- The frame ends with row 3 missing: under ABANDON, under REWEIGHT, and at a weight of 0. -/
theorem witness_FrameEndInFrame :
    let v (policy weight : Nat) : ViewFrame :=
      { viewFrame with descriptor := descriptor 16 16 8 2 0 256 8 policy 1 1 0 64 [1, 1, 1, weight] [1, 1] }
    let s (policy weight : Nat) : State := carrying .claiming (v policy weight) (inFrame .body 4 3 (inRun .running))
    let t (policy weight : Nat) : State := after (packetEnd []) (receiving (header 4 5 0 1) (s policy weight))
    let seen (t : State) : Option (Nat × Option OutcomeCause) := (t.channel 0).frame.map fun w => (w.missingRows, w.abandoned)
    (s 0 1).tracker.state = .body ∧ (s 0 1).tracker.nextRow + 1 = (s 0 1).tracker.height.toNat
      ∧ ((s 0 1).channel 0).produces (v 0 1)
      ∧ (placeRow 1 (v 0 1).descriptor 3).map (fun x => (x.weight, x.last)) = some (1, false)
      ∧ (placeRow 1 (v 0 0).descriptor 3).map (fun x => (x.weight, x.last)) = some (0, false)
      ∧ (v 1 1).descriptor.policy = 1 ∧ (v 0 1).descriptor.policy = 0
      ∧ seen (t 1 1) = some (1, some .rowLoss) ∧ seen (t 0 1) = some (1, none) ∧ seen (t 1 0) = some (0, none)
      ∧ (t 0 1).tracker.framesEnded = 1 ∧ (t 0 1).plan.fetch = .selector := by decide +kernel

/-- All four rows missing at the FRAME_END: both groups finalized with hole rows, the window complete. -/
theorem test_groupsOfMissingRows :
    let s := carrying .active (holding .exchanged) (inFrame .header 4 0 (inRun .running))
    let t := after (packetEnd []) (receiving (header 4 5 0 1) s)
    ((t.channel 0).state, (t.channel 0).frame.map fun w => (w.missingRows, w.holeRows, w.staging.length, w.windowComplete))
      = (.flushing, some (4, 2, 2, true)) := by decide +kernel

theorem witness_FrameStartBeginsFrame :
    let t (s : State) : State := after (packetEnd [16, 0, 4, 0, 10]) (receiving (header 1 6 5 1) s)
    let busy := t (planned (inFrame .body 4 1 (inRun .running)))
    headerKind (header 1 6 5 1) = some .frameStart ∧ (busy.tracker.framesTruncated, busy.tracker.framesStarted) = (1, 2)
      ∧ busy.tracker.currentBank = 1 ∧ busy.tracker.deadline = some 100 ∧ (t (inRun .stopping)).tracker.deadline = none
      ∧ ((t (inRun .stopping)).tracker.width, (t (inRun .stopping)).tracker.height, (t (inRun .stopping)).tracker.depth)
        = (16, 4, 10) := by decide +kernel

/-- A pending plan with all channels IDLE, with one busy, and none. -/
theorem witness_AdoptionAtFrameStart :
    let s : State := { inRun .running with plan := { PlanUnit.initial with candidate := some plan } }
    let t (s : State) : State := after (packetEnd [16, 0, 4, 0, 10]) (receiving (header 1 6 5 1) s)
    s.plan.candidate = some plan ∧ (s.channel 7).state = .idle
      ∧ ((carrying .sealing (holding .exchanged) s).channel 0).state ≠ .idle
      ∧ (t s).plan.adopted = some plan ∧ (t s).plan.report.adoptionFrame = 6
      ∧ (t s).allocations[0] = { first := 0, accumulatorBlocks := 1, stagingBlocks := 1 }
      ∧ (t (carrying .sealing (holding .exchanged) s)).plan.report.deferrals = 1
      ∧ (t (inRun .running)).plan.adopted = none := by decide +kernel

/-- View 0 selects a matching frame: from IDLE it opens; busy, mismatched and in an adoption gap it skips; CLAIMING it is overtaken; a
FAULTED pool fails its claim. -/
theorem witness_ViewsAtFrameStart :
    let s := planned (inRun .running)
    let t (depth : Byte) (s : State) : Channel :=
      (after (packetEnd [16, 0, 4, 0, depth]) (receiving (header 1 6 5 1) s)).channel 0
    let last (c : Channel) : OutcomeClass × OutcomeCause := (c.tally.lastClass, c.tally.lastCause)
    let gap (s : State) : State := { s with plan := { s.plan with candidate := some plan } }
    plan.mask.getLsbD 0 = true ∧ (s.scanner plan.views[0].poolId).state = .ready ∧ s.tracker.state = .idle
      ∧ (t 10 s).state = .claiming ∧ last (t 12 s) = (.skipped, .formatMismatch)
      ∧ last (t 10 (carrying .sealing (holding .exchanged) s)) = (.skipped, .busy)
      ∧ last (t 10 (gap (carrying .sealing (holding .exchanged) s))) = (.skipped, .adopting)
      ∧ ((t 10 (carrying .claiming viewFrame s)).state, (t 10 (carrying .claiming viewFrame s)).frame.map ViewFrame.abandoned)
        = (.returning, some (some .lateBuffer))
      ∧ ((t 10 (carrying .flushing { holding .outstanding with copy := .due } s)).frame.map ViewFrame.metaLost) = some true
      ∧ last (t 10 { s with scanners := s.scanners.set 0 { Scanner.initial with state := .faulted } })
        = (.skipped, .poolFault)
      ∧ last (t 10 (carrying .claiming viewFrame s)) = (.skipped, .busy) := by decide +kernel

/-- A frame start in frame truncates the frame first; a mismatch is raised though no view selects the frame. -/
theorem test_frameStartInFrame :
    let s (state : ChannelState) (v : ViewFrame) : State := carrying state v (inFrame .body 4 1 (planned (inRun .running)))
    let t (depth : Byte) (s : State) : State := after (packetEnd [16, 0, 4, 0, depth]) (receiving (header 1 6 5 1) s)
    let seen (t : State) : ChannelState × Option (Option OutcomeCause) × OutcomeCause :=
      ((t.channel 0).state, (t.channel 0).frame.map ViewFrame.abandoned, (t.channel 0).tally.lastCause)
    let none' : Plan := { plan with mask := 0 }
    seen (t 10 (s .claiming viewFrame)) = (.returning, some (some .truncated), .busy)
      ∧ seen (t 10 (s .active (holding .exchanged))) = (.flushing, some (some .truncated), .busy)
      ∧ (t 10 (s .active (holding .exchanged))).flagged .formatMismatch = false
      ∧ (t 12 { planned (inRun .running) with plan := { PlanUnit.initial with adopted := some none' } }).flagged .formatMismatch
        = true := by decide +kernel

theorem witness_GapDeadlineTruncates :
    let s := inFrame .body 4 1 (inRun .running)
    s.tracker.state ≠ .idle ∧ s.tracker.deadline = some 100 ∧ State.reset.tracker.state = .idle
      ∧ ((after .gapTimeout s).timebase, (after .gapTimeout s).tracker.gapTimeouts) = (100, 1) := by decide +kernel

/-- Lane counts 1, 4 and 3; slot counts 0, 64 and 65, an array that ends at the control block, one that reaches into it and one that
is not aligned. -/
theorem witness_StartReadsChecked :
    let link := reading .linkWord (inRun .starting)
    let pool (address : DWord) (count : Nat) : State :=
      after (.poolTableAnswer 0 (.ok (BitVec.ofNat 512 (address.toNat + 2 ^ 64 * count))))
        (reading .poolTable { State.reset with run := { RunControl.initial with state := .starting, anchor := 0x1000 } })
    link.run.state = .starting ∧ link.awaits 0 .linkWord ∧ (reading .poolTable (inRun .starting)).awaits 0 .poolTable
      ∧ (after (.linkWordAnswer 0 (.ok 1)) link).run.progress = .poolTable
      ∧ (after (.linkWordAnswer 0 (.ok 4)) link).run.lanesRead = 4
      ∧ (after (.linkWordAnswer 0 (.ok 3)) link).plan.report.reason = .badLinkWord
      ∧ (after (.linkWordAnswer 0 (.ok 0)) link).plan.report.reason = .badLinkWord
      ∧ (pool 0x2000 64).run.pools[0] = some { address := 0x2000, count := 64 } ∧ (pool 0x2001 0).run.pools[0] = none
      ∧ (pool 0x0FE0 2).run.progress = .plan ∧ (pool 0x0FE0 3).plan.report.reason = .badPoolTable
      ∧ (pool 0x1FF0 1).plan.report.reason = .badPoolTable ∧ (pool 0x2000 65).plan.report.reason = .badPoolTable
      ∧ (pool 0x2008 1).plan.report.reason = .badPoolTable := by decide +kernel

theorem witness_StartPlanReads :
    let selector := reading .startSelector (inRun .starting)
    let s := reading .startPage (planned (inRun .starting))
    let paged : State := { s with plan := { s.plan with fetch := .page, selector := some { sequence := 7, page := 1 } } }
    selector.run.state = .starting ∧ selector.plan.discard = false ∧ selector.awaits 0 .startSelector
      ∧ paged.plan.selector = some { sequence := 7, page := 1 } ∧ paged.awaits 0 .startPage
      ∧ (after (.startSelectorAnswer 0 (.ok 0x0000000100000007)) selector).plan.fetch = .page
      ∧ (after (.startSelectorAnswer 0 (.ok 0x0000000200000007)) selector).plan.report.rejectedSequence = 7
      ∧ (after (.startPageAnswer 0 (.ok (page 7 10 100 small))) paged).plan.adopted = some plan
      ∧ (after (.startPageAnswer 0 (.ok (page 8 10 100 small))) paged).plan.report.reason = .tornPage := by decide +kernel

/-- Pages that meet each case's conditions, by what they are judged (rule R19); line memory at 256 + 256 blocks and beyond. -/
theorem witness_PlanJudged :
    let wide (depth : Nat) (mask : Nat) : BitVec 8192 :=
      let d := descriptor 2 8192 1 1 0 256 depth 0 0 1 0 0 [1] [1]
      BitVec.ofNat 8192
        (7 + 2 ^ 32 * mask + 2 ^ 48 * 8192 + 2 ^ 64 * 2 + 2 ^ 80 * 10 + 2 ^ 88 * 2 + 2 ^ 512 * (d.raw.toNat + 2 ^ 512 * d.raw.toNat)
          + 2 ^ 8160 * 7)
    (page 7 10 100 small).extractLsb' 0 32 = 7 ∧ (page 7 10 100 small).extractLsb' (8 * 0x3FC) 32 = 7
      ∧ fieldAt (page 7 10 100 small) 0x06 2 = 16 ∧ fieldAt (page 7 10 100 small) 0x0A 1 = 10
      ∧ (page 7 10 100 small).getLsbD 32 = true ∧ (page 7 10 100 small).getLsbD 33 = false
      ∧ (match judgePage pools 7 (wide 16 1) with
          | .valid p => p.lineBlocks
          | .rejected _ _ => 0) = 512
      ∧ judgePage pools 7 (wide 16 3) = .rejected .lineMemory 0xFF ∧ small.pool ≤ 3 ∧ 15 < 16 := by decide +kernel

/-- The largest view of rule R17, and the smallest. -/
theorem witness_SizesDerived :
    let large := descriptor 8192 8192 1 1 0 256 16 0 0 1 0 4096 [1] [1]
    let least := descriptor 1 1 1 1 0 256 8 0 0 1 0 0 [1] [1]
    windowOk 1 8192 8192 large = true ∧ weightsOk large = true ∧ large.outDepth = 16 ∧ large.metadataLimit ≤ 4096
      ∧ (derivedSizes 1 large).neededBytes = 134222080 ∧ (derivedSizes 1 large).stride = 16384
      ∧ windowOk 1 16 1 least = true ∧ weightsOk least = true ∧ (derivedSizes 1 least).stride = 64
      ∧ (derivedSizes 1 least).metadataArea = 0
      ∧ ((derivedSizes 1 large).accumulatorBlocks, (derivedSizes 1 large).stagingBlocks) = (128, 128)
      ∧ ((derivedSizes 1 least).accumulatorBlocks, (derivedSizes 1 least).stagingBlocks) = (1, 1) := by decide +kernel

theorem witness_BookkeepingEnds :
    let s (p : StartProgress) : State := (writing .adoptionWord (inRun .starting)).setProgress p
    (s .adopted).run.state = .starting ∧ (s .adopted).awaitsWrite 0 .adoptionWord ∧ (s .adopted).run.progress = .adopted
      ∧ (s .failed).run.progress = .failed ∧ (inRun .aborting).live ∧ (inRun .aborting).run.state ≠ .starting
      ∧ (writing .linkTally (inRun .stopping)).awaitsWrite 0 .linkTally
      ∧ (after (.adoptionWordResponse 0 .ok) (s .adopted)).receiver.state = .hunt
      ∧ (after (.adoptionWordResponse 0 .ok) (s .failed)).run.result = .startFailed := by decide +kernel

/-- Table 3-3, case by case: adopted 7, pending 8, remembered 9. -/
theorem witness_RunningSelectorJudged :
    let s := reading .selector (planned (inRun .running))
    let w : State :=
      { s with plan := { s.plan with fetch := .selector, candidate := some { plan with sequence := 8 }, remembered := some 9 } }
    let t (sequence page : Nat) : PlanUnit := (after (.selectorAnswer 0 (.ok (BitVec.ofNat 64 (sequence + 2 ^ 32 * page)))) w).plan
    w.live ∧ w.plan.discard = false ∧ w.awaits 0 .selector
      ∧ ((t 7 0).candidate, (t 7 0).report.discards) = (none, 1) ∧ ((t 8 5).candidate.isSome, (t 8 5).fetch) = (true, .quiet)
      ∧ ((t 9 0).candidate, (t 9 0).report.discards) = (none, 1)
      ∧ ((t 10 2).report.reason, (t 10 2).remembered, (t 10 2).report.discards) = (.badHeader, some 10, 1)
      ∧ ((t 10 1).fetch, (t 10 1).candidate.isSome) = (.page, true)
      ∧ (after (.selectorAnswer 0 .error) w).plan.report.transients = 1
      ∧ (after (.selectorAnswer 0 .error) { w with plan := { w.plan with discard := true } }).plan.report.transients = 0 := by
  decide +kernel

theorem witness_RunningPageJudged :
    let s := reading .page (planned (inRun .running))
    let w (pending : Option Plan) : State :=
      { s with
        plan := { s.plan with fetch := .page, selector := some { sequence := 8, page := 0 }, candidate := pending } }
    let t (pending : Option Plan) (a : ReadAnswer 8192) : PlanUnit := (after (.pageAnswer 0 a) (w pending)).plan
    (w none).live ∧ (w none).plan.discard = false ∧ (w none).plan.selector = some { sequence := 8, page := 0 }
      ∧ (w none).awaits 0 .page
      ∧ ((t none (.ok (page 8 10 100 small))).candidate.isSome, (t none (.ok (page 8 10 100 small))).report.discards) = (true, 0)
      ∧ (t (some plan) (.ok (page 8 10 100 small))).report.discards = 1
      ∧ ((t (some plan) .error).candidate, (t (some plan) .error).report.transients) = (some plan, 1)
      ∧ ((t (some plan) (.ok (page 9 10 100 small))).candidate, (t none (.ok (page 9 10 100 small))).report.reason)
        = (some plan, .tornPage)
      ∧ ((t (some plan) (.ok (page 8 11 100 small))).candidate, (t none (.ok (page 8 11 100 small))).remembered)
        = (none, some 8) := by decide +kernel

theorem witness_FaultEntered :
    [PortRole.linkWord, .poolTable, .startSelector].all
        (fun r => decide ((reading r (inRun .starting)).awaits 0 r)) = true
      ∧ (inRun .starting).plan.discard = false ∧ (inRun .aborting).live
      ∧ [PortRole.firstWrite 7, .giveBack 7, .sealing 7].all (fun r => decide ((reading r (inRun .running)).awaits 0 r)) = true
      ∧ [WriteRole.frameRecord 7, .viewTally 7 true, .viewTally 7 false, .linkTally, .adoptionWord].all
          (fun r => decide ((writing r (inRun .running)).awaitsWrite 0 r)) = true
      ∧ (after (.sealingAnswer 0 .error) (reading (.sealing 7) (inRun .running))).readRegister 0x04 = 0x5
      ∧ (after (.rowWriteResponse 0 .error) (writing (.row 0 0 0) (carrying .active (holding .exchanged) (inRun .running)))).run.state
        = .running
      ∧ (after (.slotReadAnswer 0 .error) (reading (.slotRead 0) (serving 0 none (inRun .running)))).run.state = .running := by
  decide +kernel

theorem witness_AnswersDiscarded :
    ¬(reading (.claim 1) (inRun .running)).awaits 1 (.claim 1) ∧ ¬(reading .page (inRun .running)).awaits 0 .selector
      ∧ ¬(writing .linkTally (inRun .running)).awaitsWrite 0 .adoptionWord
      ∧ answersTo (.selectorAnswer 0 .error) .selector = some 0 ∧ answersTo (.selectorAnswer 0 .error) .page = none
      ∧ (reading .selector (inRun .stopped)).awaits 0 .selector ∧ (writing .linkTally (inRun .fault)).awaitsWrite 0 .linkTally
      ∧ (Instr.sealingEntry 3).wellFormed = true ∧ Instr.sealingEntry 3 ≠ .start
      ∧ exec (.sealingEntry 3) (inRun .fault) = .next (after (.sealingEntry 3) (inRun .fault)) :=
  ⟨by decide +kernel, by decide +kernel, by decide +kernel, rfl, rfl, by decide +kernel, by decide +kernel, rfl,
    by decide +kernel, rfl⟩

/-- A claim begins at the cursor; a slot of exactly the needed bytes is claimed, one byte less or a misaligned one is refused. -/
theorem witness_ScannerVisitsSlots :
    let r : ClaimRequest := { view := 0, needed := 448, tag := 5 }
    let x : Scanner := { definition := pools[0], cursor := 1, state := .ready, queue := [r], service := none }
    let s : State := { inRun .aborting with scanners := (inRun .aborting).scanners.set 0 x }
    let read := reading (.slotRead 0) (serving 0 none (inRun .running))
    let issued (a : BitVec 128) : List PortRole := (after (.slotReadAnswer 0 (.ok a)) read).port.entries.map PortEntry.role
    (s.scanner 0).state = .ready ∧ (s.scanner 0).service = none ∧ (s.scanner 0).queue = [r] ∧ (s.scanner 0).definition = pools[0]
      ∧ (after (.claimServiceStart 0) s).port.entries.map PortEntry.access = [.read 0x2010 16]
      ∧ (s.scanner 1).queue = [] ∧ read.live ∧ read.awaits 0 (.slotRead 0)
      ∧ (record 0xFFFFFF01 448 64).extractLsb' 0 8 = 0x01
      ∧ issued (record 1 448 64) = [.claim 0] ∧ issued (record 1 447 64) = [.refusal 0]
      ∧ issued (record 1 448 96) = [.refusal 0] := by decide +kernel

/-- The first of two slots passed, and the second, by each answer that passes one. -/
theorem witness_SlotsPassed :
    let s (visited : Nat) (role : PortRole) : State :=
      reading role (carrying .claiming viewFrame (serving visited (some (record 1 447 64)) (inRun .running)))
    let next (c : Instr) (role : PortRole) : Option ClaimService := ((after c (s 0 role)).scanner 0).service
    (s 0 (.claim 0)).live ∧ ((s 0 (.claim 0)).scanner 0).definition = some { address := 0x2000, count := 2 }
      ∧ ((s 0 (.claim 0)).scanner 0).service.isSome = true ∧ (record 0 4096 64).extractLsb' 0 8 ≠ 0x01
      ∧ (record 7 4096 64).extractLsb' 0 8 ≠ 0x01 ∧ (s 0 (.slotRead 0)).awaits 0 (.slotRead 0)
      ∧ (s 0 (.claim 0)).awaits 0 (.claim 0) ∧ (s 0 (.refusal 0)).awaits 0 (.refusal 0)
      ∧ (next (.slotReadAnswer 0 (.ok (record 7 4096 64))) (.slotRead 0)).map ClaimService.index = some 0
      ∧ (next (.claimAnswer 0 .notExchanged) (.claim 0)).map ClaimService.visited = some 1
      ∧ (after (.refusalAnswer 0 .exchanged) (s 0 (.refusal 0))).flagged .slotRefused = true
      ∧ (after (.claimAnswer 0 .notExchanged) (s 1 (.claim 0))).attention.flags = 0x0004
      ∧ (after (.claimAnswer 0 .notExchanged)
          (carrying .returning (viewFrame.mark .aborted 3) (s 1 (.claim 0)))).attention.flags = 0
      ∧ ((after (.refusalAnswer 0 .notExchanged) (s 1 (.refusal 0))).channel 0).tally.lastCause = .starved
      ∧ ((after (.refusalAnswer 0 .notExchanged) (s 1 (.refusal 0))).scanner 0).cursor = 1 := by decide +kernel

theorem witness_ClaimWon :
    let s (state : ChannelState) (v : ViewFrame) : State :=
      reading (.claim 0) (carrying state v (serving 0 (some (record 0xABCD0F01 4096 64)) (inRun .running)))
    let t (state : ChannelState) (v : ViewFrame) : State := after (.claimAnswer 0 .exchanged) (s state v)
    let seen (t : State) : ChannelState × List PortRole := ((t.channel 0).state, t.port.entries.map PortEntry.role)
    viewFrame.claimInFlight = true ∧ viewFrame.firstWrite = .notIssued ∧ (s .claiming viewFrame).awaits 0 (.claim 0)
      ∧ ((s .claiming viewFrame).channel 0).frame = some viewFrame
      ∧ seen (t .claiming viewFrame) = (.active, []) ∧ ((t .claiming viewFrame).scanner 0).cursor = 0
      ∧ seen (t .claiming { viewFrame with copy := .due }) = (.active, [.firstWrite 0])
      ∧ seen (t .claiming { viewFrame with staging := [{ rows := [] }], windowComplete := true }) = (.flushing, [.firstWrite 0])
      ∧ seen (t .returning viewFrame) = (.returning, [.giveBack 0])
      ∧ ((t .claiming viewFrame).channel 0).frame.map (fun v => v.slot.map Slot.word) = some (some 0x00050002) := by
  decide +kernel

/-- A pool faults with view 0 in service and view 1 queued. -/
theorem witness_PoolFaults :
    let s := reading (.refusal 0) (carrying .claiming viewFrame (serving 0 none (inRun .running)))
    let x : Scanner := { s.scanner 0 with queue := [{ view := 1, needed := 448, tag := 5 }] }
    let w : State :=
      { s with
        scanners := s.scanners.set 0 x
        channels := s.channels.set 1 { state := .returning, frame := some (viewFrame.mark .aborted 3), tally := Tally.initial } }
    let t := after (.refusalAnswer 0 .error) w
    w.live ∧ w.awaits 0 (.refusal 0) ∧ (t.scanner 0).state = .faulted
      ∧ ((t.channel 0).tally.lastCause, (t.channel 1).tally.lastCause) = (.poolFault, .aborted)
      ∧ t.attention.flags = 0x0024 ∧ t.queue.requests = [.viewTally 0, .viewTally 1]
      ∧ (after (.refusalAnswer 0 .error) (carrying .returning (viewFrame.mark .aborted 3) w)).attention.flags = 0x0020 := by
  decide +kernel

theorem witness_FirstWriteAnswered :
    let s (v : ViewFrame) : State := reading (.firstWrite 0) (carrying .active v (inRun .running))
    let t (a : CasAnswer) (v : ViewFrame) : State := after (.firstWriteAnswer 0 a) (s v)
    let v := holding .outstanding
    (s v).live ∧ (s v).awaits 0 (.firstWrite 0) ∧ ((s v).channel 0).frame = some v ∧ v.firstWrite = .outstanding
      ∧ (t .exchanged { v with copy := .due }).waitingFor (.metadataCopy 0) = true
      ∧ (t .exchanged v).waitingFor (.metadataCopy 0) = false
      ∧ (t .exchanged { v with copy := .due, abandoned := some .overrun }).waitingFor (.metadataCopy 0) = false
      ∧ ((t .exchanged v).channel 0).frame.map (fun v => v.slot.map Slot.word) = some (some 0x00050003)
      ∧ (((t .notExchanged v).channel 0).tally.lost, (t .notExchanged v).flagged .slotStolen) = (1, true) := by decide +kernel

theorem witness_ReturnAndSealingAnswered :
    let giveBack := reading (.giveBack 0) (carrying .returning ((holding .notIssued).mark .rowLoss 9) (inRun .running))
    let sealing (v : ViewFrame) : State := reading (.sealing 0) (carrying .sealing v (inRun .running))
    let v := holding .exchanged
    giveBack.live ∧ giveBack.awaits 0 (.giveBack 0) ∧ (sealing v).awaits 0 (.sealing 0) ∧ v.abandoned = none
      ∧ (v.mark .overrun 9).abandoned = some .overrun ∧ v.descriptor.notify = 1
      ∧ ((after (.returnAnswer 0 .exchanged) giveBack).channel 0).tally.lastClass = .returned
      ∧ ((after (.returnAnswer 0 .notExchanged) giveBack).channel 0).tally.lastClass = .lost
      ∧ (after (.sealingAnswer 0 .exchanged) (sealing v)).attention.flags = 0x0001
      ∧ (after (.sealingAnswer 0 .exchanged) (sealing (v.mark .overrun 9))).attention.flags = 0x0002
      ∧ (after (.sealingAnswer 0 .notExchanged) (sealing v)).attention.flags = 0x0010 := by decide +kernel

theorem witness_ChannelSealsAndCloses :
    let s (v : ViewFrame) : State := carrying .flushing v (inRun .running)
    let v := holding .exchanged
    let asked : State := { s v with queue := { (s v).queue with requests := [.viewTally 0, .linkTally] } }
    let record := writing (.frameRecord 0) (planned (carrying .sealing v (inRun .running)))
    ((s v).channel 0).state = .flushing ∧ v.firstWrite = .exchanged ∧ v.staging = [] ∧ v.copy = .notDue
      ∧ (∀ q ∈ (s v).queue.requests, q.same (.frameRecord 0 []) = false)
      ∧ (after (.sealingEntry 0) asked).queue.requests = [.linkTally, .frameRecord 0 (frameRecordBytes 0 v)]
      ∧ ((after (.sealingEntry 0) (s { v with copy := .outstanding })).channel 0).state = .flushing
      ∧ record.awaitsWrite 0 (.frameRecord 0) ∧ (record.channel 0).state = .sealing ∧ v.slot = some { slot with word := 0x00050003 }
      ∧ (record.scanner 0).definition = pools[0]
      ∧ (after (.frameRecordResponse 0 .ok) record).port.entries.map PortEntry.access
        = [.compareExchange 0x2010 0x00050003 0x00050004]
      ∧ (writing (.viewTally 0 true) record).awaitsWrite 0 (.viewTally 0 true)
      ∧ ((after (.viewTallyResponse 0 .ok) (writing (.viewTally 0 true) record)).channel 0).state = .idle
      ∧ ((after (.viewTallyResponse 0 .ok) (writing (.viewTally 0 false) record)).channel 0).state = .sealing := by decide +kernel

/-- Bookkeeping before rows; no admission with 32 outstanding, one with 31; a row of the channel the pointer reaches first. -/
theorem witness_AdmissionOrder :
    let row : StagedRow := { number := 0, bytes := [1, 2], transactions := [.ok, .waiting] }
    let v : ViewFrame := { holding .exchanged with staging := [{ rows := [row] }] }
    let rows : State := carrying .active v (inRun .running)
    let filled (n : Nat) (r : List Request) : State :=
      { rows with
        queue :=
          { rows.queue with
            entries := (List.range n).map fun i => { tag := i, role := .linkTally, address := 0, data := [] }, requests := r } }
    let admitted (s : State) : List WriteRole := (after .admission s).queue.entries.map WriteEntry.role
    rows.live ∧ (filled 31 [.linkTally]).queue.entries.length < 32 ∧ 32 ≤ (filled 32 []).queue.entries.length
      ∧ (filled 0 [.adoptionWord]).queue.requests = [.adoptionWord] ∧ rows.queue.requests = []
      ∧ admitted (filled 0 [.linkTally, .adoptionWord]) = [.linkTally] ∧ admitted rows = [.row 0 0 1]
      ∧ (admitted (filled 32 [])).length = 32 ∧ (admitted (filled 31 [])).length = 32
      ∧ admitted (filled 0 [.viewTally 7]) = [.viewTally 7 false] ∧ admitted (filled 0 [.frameRecord 0 [9]]) = [.frameRecord 0]
      ∧ admitted (filled 0 [.metadataCopy 0]) = [.metadataCopy 0 5] ∧ (after .admission rows).queue.pointer = 1 := by
  decide +kernel

/-- The row of that channel is ready, and its second transaction is next. -/
theorem witness_rowReady :
    let row : StagedRow := { number := 0, bytes := [1, 2], transactions := [.ok, .waiting] }
    (carrying .active { holding .exchanged with staging := [{ rows := [row] }] } (inRun .running)).rowReady 0
      ∧ IsNext [{ rows := [row] }] row 1 ∧ ¬(inRun .running).rowReady 0 := by
  refine ⟨⟨_, _, rfl, rfl, Or.inl rfl, rfl, rfl, rfl, _, List.mem_singleton_self _, _, List.mem_singleton_self _, ?_⟩,
    ⟨[], [], rfl, by decide +kernel, rfl, by decide +kernel⟩, ?_⟩
  · decide +kernel
  · have idle : ((inRun .running).channel 0).frame = none := by decide +kernel
    rintro ⟨v, _, h, _⟩
    simp [idle] at h

set_option synthInstance.maxSize 1000 in
set_option synthInstance.maxHeartbeats 400000 in
/-- The last transaction of a row answered OK, one of two, and ERROR; a copy answered OK, ERROR, and another view frame's. -/
theorem witness_WritesAnswered :
    let row (other : TransactionState) : StagedRow := { number := 0, bytes := [1], transactions := [.outstanding, other] }
    let v (other : TransactionState) : ViewFrame := { holding .exchanged with staging := [{ rows := [row other] }] }
    let s (v : ViewFrame) : State := writing (.row 0 0 0) (carrying .active v (inRun .running))
    let copy (n : Half) : State :=
      writing (.metadataCopy 0 n) (carrying .active { v .waiting with copy := .outstanding, copyLength := 3 } (inRun .running))
    let seen (t : State) := (t.channel 0).frame.map fun w => (w.rowsWritten, w.staging.length, w.abandoned, w.metadataBytes)
    (s (v .ok)).live ∧ (s (v .ok)).awaitsWrite 0 (.row 0 0 0) ∧ (v .ok).abandoned = none ∧ (v .ok).firstWrite = .exchanged
      ∧ (copy 5).awaitsWrite 0 (.metadataCopy 0 5) ∧ viewFrame.frameNumber = 5
      ∧ seen (after (.rowWriteResponse 0 .ok) (s (v .ok))) = some (1, 0, none, 0)
      ∧ seen (after (.rowWriteResponse 0 .ok) (s (v .outstanding))) = some (0, 1, none, 0)
      ∧ seen (after (.rowWriteResponse 0 .error) (s (v .waiting))) = some (0, 0, some .busError, 0)
      ∧ seen (after (.rowWriteResponse 0 .error) (s ((v .ok).mark .overrun 3))) = some (0, 0, some .overrun, 0)
      ∧ seen (after (.metadataCopyResponse 0 .ok) (copy 5)) = some (0, 1, none, 3)
      ∧ seen (after (.metadataCopyResponse 0 .ok) (copy 6)) = some (0, 1, none, 0)
      ∧ seen (after (.metadataCopyResponse 0 .error) (copy 5)) = some (0, 1, some .busError, 0) := by decide +kernel

theorem witness_RunReachesStopped :
    let s := inRun .aborting
    s.tracker.state = .idle ∧ (s.channel 7).state = .idle ∧ s.plan.fetch = .quiet ∧ s.port.entries = [] ∧ s.queue.entries = []
      ∧ s.queue.requests = [] ∧ (after .runStopped s).run.state = .stopped ∧ (after .runStopped s).attention.flags = 0x1000
      ∧ (after .runStopped (s.ask .linkTally)).run.state = .aborting
      ∧ (after .runStopped (s.ask (.viewTally 7))).run.state = .aborting
      ∧ (after .runStopped (reading .selector s)).run.state = .aborting
      ∧ (after .runStopped (inRun .running)).run.state = .running := by decide +kernel

theorem witness_RecordsLaidOut :
    viewFrame.abandoned = none ∧ (viewFrame.mark .rowLoss 1).abandoned = some .rowLoss ∧ 255 < 256 ^ 1 ∧ 7 < 8
      ∧ (frameRecordBytes 0 viewFrame).take 6 = [5, 0, 0, 1, 1, 8] := by decide +kernel

theorem witness_PixelsConditioned :
    1023 < 2 ^ 10 ∧ 1022 < 2 ^ 10 - 1 ∧ offsetStep 1022 1023 = 1 ∧ offsetStep 1023 1023 = 0
      ∧ gainStep 4095 (offsetStep 0 16383) = 262064 ∧ depthStep 10 16 262064 = 16772096 := by decide +kernel

/-- The promises at the edges of their ranges, and a step from there. -/
theorem witness_TrackerKeepsPromises :
    let s := inFrame .body 4 4 (inRun .running)
    s.framesBalanced ∧ s.trackerBounded ∧ State.reset.framesBalanced
      ∧ step { s with pending := [.abort] } = .next (after .abort s) := by
  refine ⟨?_, ?_, ?_, ?_⟩
  · unfold State.framesBalanced; decide +kernel
  · unfold State.trackerBounded; decide +kernel
  · unfold State.framesBalanced; decide +kernel
  · rfl

theorem witness_ReceiverKeepsPromises :
    (inRun .starting).receiverRests ∧ (receiver .locked .search (inRun .running)).receiverRests
      ∧ (receiver .locked .search (inRun .running)).receiverBounded := by
  refine ⟨?_, ?_, ?_⟩ <;> first | unfold State.receiverRests; decide +kernel | unfold State.receiverBounded; decide +kernel

theorem witness_ChannelsKeepPromises :
    (inRun .running).framesMatch ∧ (inRun .running).stagingBounded ∧ (inRun .running).sixTransitions := by
  have none : ∀ k : ViewId, ((inRun .running).channel k).frame = none := by decide +kernel
  refine ⟨?_, ?_, ?_, ?_⟩
  · unfold State.framesMatch; decide +kernel
  · intro k v h; simp [none k] at h
  · intro e h; cases h
  · intro k v h; simp [none k] at h

theorem witness_MemoryPathKeepsPromises :
    (inRun .running).queueBounded ∧ (inRun .running).requestsDistinct ∧ (inRun .running).lineMemoryBounded
      ∧ ({ inRun .running with allocations := plan.allocations } : State).lineMemoryBounded := by
  refine ⟨?_, ?_, ?_, ?_⟩
  · unfold State.queueBounded; decide +kernel
  · exact List.Pairwise.nil
  · exact ⟨by decide +kernel, fun p h => nomatch h⟩
  · exact ⟨by decide +kernel, fun p h => nomatch h⟩

theorem witness_TagsNeverReused :
    (reading .selector (inRun .running)).tagsFrom 0 ∧ State.reset.tagsFrom 0
      ∧ exec .reset (reading .selector (inRun .running)) = .next (after .reset (reading .selector (inRun .running))) := by
  refine ⟨?_, ?_, rfl⟩ <;> unfold State.tagsFrom <;> decide +kernel

end Sys2Proof.Tests
end

section
/-! The payload lengths each kind accepts (R65), kind by kind. -/

namespace Sys2Proof.Machine

variable (s : State) (n : Nat)

/-- Rounding up, said with no division: `m * n` reaches `a` and passes it by less than `m`. -/
theorem eq_ceilDiv_iff {a m : Nat} (hm : 0 < m) : n = ceilDiv a m ↔ m * n < a + m ∧ a ≤ m * n := by
  rw [eq_comm, ceilDiv, Nat.div_eq_iff hm, Nat.mul_comm n m]
  omega

theorem eq_requiredRowLength_iff {width depth : Nat} :
    n = requiredRowLength width depth ↔ 8 * n < width * depth + 8 ∧ width * depth ≤ 8 * n :=
  eq_ceilDiv_iff n (by decide)

theorem State.inFrame_iff : s.inFrame = true ↔ s.tracker.state ≠ .idle := by simp [State.inFrame]

@[simp] theorem State.lengthAccepted_frameStart : s.lengthAccepted .frameStart n = true ↔ n = 5 := by
  simp [State.lengthAccepted]

@[simp] theorem State.lengthAccepted_metaRow : s.lengthAccepted .metaRow n = true ↔ 1 ≤ n ∧ n ≤ 4096 := by
  simp [State.lengthAccepted]

@[simp] theorem State.lengthAccepted_frameEnd : s.lengthAccepted .frameEnd n = true ↔ n = 0 := by
  simp [State.lengthAccepted]

@[simp] theorem State.lengthAccepted_fill : s.lengthAccepted .fill n = true ↔ n = 0 := by
  simp [State.lengthAccepted]

/-- In frame, only the row length the FRAME_START's width and depth require. -/
theorem State.lengthAccepted_pixelRow_inFrame (h : s.tracker.state ≠ .idle) :
    s.lengthAccepted .pixelRow n = true ↔ n = requiredRowLength s.tracker.width.toNat s.tracker.depth.toNat := by
  simp [State.lengthAccepted, s.inFrame_iff.mpr h]

/-- Out of frame, anything up to the longest row. -/
theorem State.lengthAccepted_pixelRow_idle (h : s.tracker.state = .idle) :
    s.lengthAccepted .pixelRow n = true ↔ n ≤ Config.longestRow := by
  have outOfFrame : s.inFrame = false := by simp [State.inFrame, h]
  simp [State.lengthAccepted, outOfFrame]

end Sys2Proof.Machine

namespace Sys2Proof

open Sys2Proof.Machine

/-- Settles O17, kind by kind; a PIXEL_ROW in frame by the rounding of the required row length. -/
theorem payloadLengthsAccepted : Obligations.PayloadLengthsAccepted := by
  intro s n
  refine ⟨s.lengthAccepted_frameStart n, s.lengthAccepted_metaRow n, s.lengthAccepted_frameEnd n,
    s.lengthAccepted_fill n, fun inFrame => ?_, s.lengthAccepted_pixelRow_idle n⟩
  exact (s.lengthAccepted_pixelRow_inFrame n inFrame).trans (eq_requiredRowLength_iff n)

end Sys2Proof
end

section
/-! The attention flags and the interrupt line, flag by flag (R173, R174). -/

namespace Sys2Proof.Machine

variable (s : State)

/-- Two words have a common bit exactly when their conjunction is not 0. -/
theorem and_bne_zero_iff {w : Nat} (x y : BitVec w) :
    (x &&& y != 0) = true ↔ ∃ i, i < w ∧ x.getLsbD i = true ∧ y.getLsbD i = true := by
  rw [bne_iff_ne, ne_eq, ← not_iff_not, not_not]
  constructor
  · rintro zero ⟨i, -, hx, hy⟩
    have bit := congrArg (BitVec.getLsbD · i) zero
    simp [hx, hy] at bit
  · intro disjoint
    refine BitVec.eq_of_getLsbD_eq fun i hi => ?_
    simpa using fun hx => by simpa using fun hy => disjoint ⟨i, hi, hx, hy⟩

/-- The line is asserted exactly when some flag and its enable are both set (R174). -/
theorem State.interruptLine_iff :
    s.interruptLine = true ↔
      ∃ i, i < 14 ∧ s.attention.flags.getLsbD i = true ∧ s.attention.enables.getLsbD i = true :=
  and_bne_zero_iff _ _

theorem AttentionCause.bit_lt (c : AttentionCause) : c.bit < 14 := by cases c <;> decide

@[simp] theorem AttentionCause.mask_getLsbD (c : AttentionCause) (i : Nat) : c.mask.getLsbD i = decide (i = c.bit) := by
  have power : c.mask = BitVec.twoPow 14 c.bit := BitVec.eq_of_toNat_eq (by simp [AttentionCause.mask])
  simp [power, c.bit_lt, eq_comm]

/-- A flag is set exactly when its bit of Table 10-6 is. -/
theorem State.flagged_iff (c : AttentionCause) : s.flagged c = true ↔ s.attention.flags.getLsbD c.bit = true := by
  rw [State.flagged, and_bne_zero_iff]
  simp only [AttentionCause.mask_getLsbD, decide_eq_true_eq]
  exact ⟨fun ⟨_, _, set, here⟩ => here ▸ set, fun set => ⟨c.bit, c.bit_lt, set, rfl⟩⟩

/-- A cause that is enabled asserts the line when it is raised. -/
theorem State.interruptLine_raise {c : AttentionCause} (enabled : s.attention.enables.getLsbD c.bit = true) :
    (s.raise c).interruptLine = true :=
  (State.interruptLine_iff _).mpr ⟨c.bit, c.bit_lt, by simp, enabled⟩

/-- Clearing every flag that is set and enabled drops the line. -/
theorem State.interruptLine_clearFlags {value : Word}
    (covers : ∀ i, i < 14 → s.attention.flags.getLsbD i = true → s.attention.enables.getLsbD i = true →
      value.getLsbD i = true) :
    (s.clearFlags value).interruptLine = false := by
  rw [Bool.eq_false_iff, ne_eq, State.interruptLine_iff]
  rintro ⟨i, hi, left, enabled⟩
  obtain ⟨set, notWritten⟩ : s.attention.flags.getLsbD i = true ∧ value.getLsbD i = false := by simpa [hi] using left
  exact Bool.eq_false_iff.mp notWritten (covers i hi set enabled)

/-- Enabling a flag that is set asserts the line. -/
theorem State.interruptLine_setEnables {value : Word} {c : AttentionCause} (set : s.flagged c = true)
    (enables : value.getLsbD c.bit = true) : (s.setEnables value).interruptLine = true :=
  (State.interruptLine_iff _).mpr
    ⟨c.bit, c.bit_lt, (s.flagged_iff c).mp set, by simp [c.bit_lt, enables]⟩

/-- With no flag enabled the line is not asserted. -/
theorem State.interruptLine_disabled : (s.setEnables 0).interruptLine = false := by
  rw [Bool.eq_false_iff, ne_eq, State.interruptLine_iff]
  rintro ⟨i, -, -, enabled⟩
  simp at enabled

end Sys2Proof.Machine

namespace Sys2Proof

open Sys2Proof.Machine

/-- Settles O11: the line bit by bit, and its four consequences from that. -/
theorem enablesAndInterruptLine : Obligations.EnablesAndInterruptLine :=
  ⟨fun _ _ => rfl, fun _ => rfl, State.interruptLine_iff, fun s _ => s.interruptLine_raise,
    fun s _ => s.interruptLine_clearFlags, fun s _ _ => s.interruptLine_setEnables,
    fun s => ⟨s.interruptLine_disabled, rfl⟩⟩

end Sys2Proof
end

section
/-! The commands written to RUN (R163, Table 10-5): how each is judged, and how RUN reads it back. -/

namespace Sys2Proof.Machine

variable (s : State)

/-! ### The arms -/

theorem exec_start : exec .start s = .next (takeStart s) := rfl

theorem exec_stop : exec .stop s = .next (takeStop s) := rfl

theorem exec_abort : exec .abort s = .next (takeAbort s) := rfl

theorem exec_clearFault : exec .clearFault s = .next (takeClearFault s) := rfl

theorem exec_reset : exec .reset s = .next s.softReset := rfl

theorem exec_adoptionWordResponse (tag : Nat) (answer : WriteAnswer) :
    exec (.adoptionWordResponse tag answer) s = .next (takeAdoptionWord tag answer s) := rfl

/-- A write of a code that RUN does not know is refused. -/
theorem exec_unknownCode {code : Word} (h : (Instr.unknownCode code).wellFormed = true) :
    exec (.unknownCode code) s = .next (s.record .refusedCode) := by
  obtain ⟨not1, not2, not3, not4, not5⟩ : code ≠ 1 ∧ code ≠ 2 ∧ code ≠ 3 ∧ code ≠ 4 ∧ code ≠ 5 := by
    simpa [Instr.wellFormed, knownRunCodes] using h
  have judged : writeRun code s = s.record .refusedCode := by
    rw [writeRun, if_neg not1, if_neg not2, if_neg not3, if_neg not4, if_neg not5]
  exact congrArg _ judged

/-! ### Refused -/

/-- A command given outside its run states is refused, and only that is recorded. -/
theorem exec_refusedState {c : Instr} (h : c = .start ∨ c = .stop ∨ c = .abort ∨ c = .clearFault)
    (refused : acceptedIn c s.run.state = false) : exec c s = .next (s.record .refusedState) := by
  rcases h with rfl | rfl | rfl | rfl
  · have outside : s.run.state ≠ .stopped := by simpa [acceptedIn] using refused
    rw [exec_start, takeStart, if_pos outside]
  · have outside : s.run.state ≠ .running := by simpa [acceptedIn] using refused
    rw [exec_stop, takeStop, if_neg outside]
  · rw [exec_abort, takeAbort]
    cases state : s.run.state <;> simp [state, acceptedIn] at refused ⊢
  · have outside : s.run.state ≠ .fault := by simpa [acceptedIn] using refused
    rw [exec_clearFault, takeClearFault, if_pos outside]

theorem takeStart_unaligned (state : s.run.state = .stopped) (unaligned : s.run.anchor.toNat % 4096 ≠ 0) :
    takeStart s = s.record .refusedAnchor := by
  simp [takeStart, state, State.anchorAligned, unaligned]

theorem takeClearFault_busy (state : s.run.state = .fault) (outstanding : s.outstandingCount ≠ 0) :
    takeClearFault s = s.record .busy := by
  simp [takeClearFault, state, outstanding]

/-! ### Accepted -/

@[simp] theorem markDiscard_run : (markDiscard s).run = s.run := by
  unfold markDiscard
  split <;> rfl

/-- The blocks that an ABORT is passed to leave the run controller. -/
@[simp] theorem abortBlocks_run : (abortBlocks s).run = s.run :=
  (truncateFrame_sameRun _ _).run.trans (s.eachView_same _ fun k t => abortChannel_same t _ k).run

theorem takeStart_accepted (state : s.run.state = .stopped) (aligned : s.run.anchor.toNat % 4096 = 0) :
    (takeStart s).run.result = .accepted := by
  simp [takeStart, state, State.anchorAligned, aligned]

theorem takeStop_run (state : s.run.state = .running) :
    (takeStop s).run = { s.run with state := .stopping, result := .accepted } := by
  rw [takeStop, if_pos state, markDiscard_run]
  rfl

theorem takeAbort_run (state : s.run.state = .starting ∨ s.run.state = .running ∨ s.run.state = .stopping) :
    (takeAbort s).run = { s.run with state := .aborting, result := .accepted, progress := .none } := by
  rcases state with state | state | state <;>
    simp only [takeAbort, state, abortBlocks_run, markDiscard_run] <;> rfl

theorem takeClearFault_accepted (state : s.run.state = .fault) (quiet : s.outstandingCount = 0) :
    takeClearFault s = (s.record .accepted).setRunState .stopped := by
  simp [takeClearFault, state, quiet]

/-- A command given in its run states, START with ANCHOR aligned and CLEAR_FAULT with nothing outstanding, is accepted. -/
theorem exec_accepted {c : Instr} (h : c = .start ∨ c = .stop ∨ c = .abort ∨ c = .clearFault)
    (accepted : acceptedIn c s.run.state = true) (aligned : c = .start → s.run.anchor.toNat % 4096 = 0)
    (quiet : c = .clearFault → s.outstandingCount = 0) : ∃ t, exec c s = .next t ∧ t.run.result = .accepted := by
  rcases h with rfl | rfl | rfl | rfl
  · have state : s.run.state = .stopped := by simpa [acceptedIn] using accepted
    exact ⟨_, exec_start s, takeStart_accepted s state (aligned rfl)⟩
  · have state : s.run.state = .running := by simpa [acceptedIn] using accepted
    exact ⟨_, exec_stop s, by rw [takeStop_run s state]⟩
  · have state : s.run.state = .starting ∨ s.run.state = .running ∨ s.run.state = .stopping := by
      simpa [acceptedIn, or_assoc] using accepted
    exact ⟨_, exec_abort s, by rw [takeAbort_run s state]⟩
  · have state : s.run.state = .fault := by simpa [acceptedIn] using accepted
    exact ⟨_, exec_clearFault s, by rw [takeClearFault_accepted s state (quiet rfl)]; rfl⟩

/-! ### The end of the START sequence -/

/-- In a live run an OK response to an adoption word write is counted off and reaches the run controller. -/
theorem takeAdoptionWord_ok {tag : Nat} (live : s.live) (awaited : s.awaitsWrite tag .adoptionWord) :
    takeAdoptionWord tag .ok s = adoptionWordAnswered .ok (s.dropWrite tag) :=
  s.responded_live _ awaited rfl live

theorem adoptionWordAnswered_adopted (state : s.run.state = .starting) (progress : s.run.progress = .adopted) :
    adoptionWordAnswered .ok s = enterRunning s := by
  simp [adoptionWordAnswered, state, progress]

theorem adoptionWordAnswered_failed (state : s.run.state = .starting) (progress : s.run.progress = .failed) :
    adoptionWordAnswered .ok s = endFailedStart s := by
  simp [adoptionWordAnswered, state, progress]

/-! ### What RUN reads -/

theorem RunState.code_lt (r : RunState) : r.code < 8 := by cases r <;> decide

theorem CommandResult.code_lt (r : CommandResult) : r.code < 16 := by cases r <;> decide

theorem State.readRegister_run :
    s.readRegister 0x04 = BitVec.ofNat 32 (s.run.state.code + 256 * s.run.result.code) := rfl

/-- RUN reads the run state in bits 2:0, the last command result in bits 11:8, and 0 in every other bit. -/
theorem State.readRegister_run_fields :
    (s.readRegister 0x04).extractLsb' 0 3 = BitVec.ofNat 3 s.run.state.code
      ∧ (s.readRegister 0x04).extractLsb' 3 5 = 0
      ∧ (s.readRegister 0x04).extractLsb' 8 4 = BitVec.ofNat 4 s.run.result.code
      ∧ (s.readRegister 0x04).extractLsb' 12 20 = 0 := by
  have state := s.run.state.code_lt
  have result := s.run.result.code_lt
  rw [State.readRegister_run]
  refine ⟨?_, ?_, ?_, ?_⟩ <;> apply BitVec.eq_of_toNat_eq <;>
    simp [BitVec.extractLsb'_toNat, Nat.shiftRight_eq_div_pow] <;> omega

/-! ### STOP and ABORT in RUNNING -/

/-- STOP in RUNNING reads back 00000103H, and an ABORT after it is accepted. -/
theorem exec_stop_abort (state : s.run.state = .running) :
    ∃ t u, exec .stop s = .next t ∧ t.run.state = .stopping ∧ t.readRegister 0x04 = 0x00000103
      ∧ exec .abort t = .next u ∧ u.run.state = .aborting ∧ u.run.result = .accepted := by
  have stopped := takeStop_run s state
  have aborted := takeAbort_run (takeStop s) (.inr (.inr (by rw [stopped])))
  refine ⟨_, _, exec_stop s, by rw [stopped], ?_, exec_abort _, by rw [aborted], by rw [aborted]⟩
  rw [State.readRegister_run, stopped]
  rfl

/-- After an ABORT in RUNNING a STOP is refused. -/
theorem exec_abort_stop (state : s.run.state = .running) :
    ∃ t u, exec .abort s = .next t ∧ t.run.state = .aborting
      ∧ exec .stop t = .next u ∧ u.run.state = .aborting ∧ u.run.result = .refusedState := by
  have aborting : (takeAbort s).run.state = .aborting := by rw [takeAbort_run s (.inr (.inl state))]
  exact ⟨_, _, exec_abort s, aborting, exec_refusedState _ (.inr (.inl rfl)) (by rw [aborting]; rfl), aborting, rfl⟩

end Sys2Proof.Machine

namespace Sys2Proof

open Sys2Proof.Machine

/-- Settles O4: refusals, acceptance and the end of START by the meaning of each command, then the fields of RUN. -/
theorem runCommandsJudged : Obligations.RunCommandsJudged := by
  refine ⟨fun s _ => exec_refusedState s, fun s _ => exec_unknownCode s,
    fun s state unaligned => congrArg _ (takeStart_unaligned s state unaligned),
    fun s state outstanding => congrArg _ (takeClearFault_busy s state outstanding), fun s _ => exec_accepted s,
    fun s => ⟨_, exec_reset s, rfl⟩, fun s tag state awaited => ?_, State.readRegister_run_fields, rfl, rfl,
    fun s state => ⟨exec_stop_abort s state, exec_abort_stop s state⟩⟩
  have delivered := takeAdoptionWord_ok s (by simp [State.live, state]) awaited
  refine ⟨fun progress => ⟨_, exec_adoptionWordResponse s tag .ok, ?_⟩,
    fun progress => ⟨_, exec_adoptionWordResponse s tag .ok, ?_⟩⟩
  · rw [delivered, adoptionWordAnswered_adopted (s.dropWrite tag) state progress]
    exact ⟨rfl, rfl⟩
  · rw [delivered, adoptionWordAnswered_failed (s.dropWrite tag) state progress]
    exact ⟨rfl, rfl⟩

end Sys2Proof
end

section
/-! What an answer does in STOPPED and FAULT, and why nothing but CLEAR_FAULT and the resets leaves FAULT (R171, R172). -/

namespace Sys2Proof.Machine

variable (s : State) {c : Instr} {tag : Nat}

/-! ### Answers -/

/-- An answer command gives its answer to the owner of the read or compare-exchange it names. -/
theorem exec_answer {r : PortRole} (h : answersTo c r = some tag) :
    ∃ (α : Type) (pick : PortRole → Option α) (deliver : α → State → State),
      (pick r).isSome = true ∧ ∀ s, exec c s = .next (s.answered tag pick deliver) := by
  unfold answersTo at h
  split at h <;> cases h
  all_goals
    refine ⟨_, _, _, ?_, fun _ => rfl⟩
    rfl

/-- A response command gives its answer to the owner of the write it names. -/
theorem exec_response {r : WriteRole} (h : respondsTo c r = some tag) :
    ∃ (α : Type) (pick : WriteRole → Option α) (deliver : α → State → State),
      (pick r).isSome = true ∧ ∀ s, exec c s = .next (s.responded tag pick deliver) := by
  unfold respondsTo at h
  split at h <;> cases h
  all_goals
    refine ⟨_, _, _, ?_, fun _ => rfl⟩
    rfl

/-- In STOPPED and FAULT an answer only counts its transaction off. -/
theorem exec_answer_halted {r : PortRole} (h : answersTo c r = some tag) (halted : s.halted = true) (awaited : s.awaits tag r) :
    exec c s = .next (s.dropPort tag) := by
  obtain ⟨_, _, deliver, owned, run⟩ := exec_answer h
  obtain ⟨_, picked⟩ := Option.isSome_iff_exists.mp owned
  rw [run, s.answered_halted deliver awaited picked halted]

theorem exec_response_halted {r : WriteRole} (h : respondsTo c r = some tag) (halted : s.halted = true)
    (awaited : s.awaitsWrite tag r) : exec c s = .next (s.dropWrite tag) := by
  obtain ⟨_, _, deliver, owned, run⟩ := exec_response h
  obtain ⟨_, picked⟩ := Option.isSome_iff_exists.mp owned
  rw [run, s.responded_halted deliver awaited picked halted]

/-- In STOPPED and FAULT an answer, awaited or not, counts its transaction off or changes nothing. -/
theorem State.answered_halted_cases {α : Type} (halted : s.halted = true) (tag : Nat) (pick : PortRole → Option α)
    (deliver : α → State → State) : s.answered tag pick deliver = s ∨ s.answered tag pick deliver = s.dropPort tag :=
  s.answered_induct (fun t => t = s ∨ t = s.dropPort tag) (.inl rfl) (.inr rfl) fun _ live => by simp [halted] at live

theorem State.responded_halted_cases {α : Type} (halted : s.halted = true) (tag : Nat) (pick : WriteRole → Option α)
    (deliver : α → State → State) : s.responded tag pick deliver = s ∨ s.responded tag pick deliver = s.dropWrite tag :=
  s.responded_induct (fun t => t = s ∨ t = s.dropWrite tag) (.inl rfl) (.inr rfl) fun _ live => by simp [halted] at live

/-! ### Counting off -/

/-- `t` stands in the run state of `s`, and from STOPPED or FAULT has no more outstanding than `s`: an answer may have counted its
transaction off, and nothing was issued. -/
structure State.OnlyCountsOff (s t : State) : Prop where
  state : t.run.state = s.run.state
  outstanding : s.halted = true → t.outstandingCount ≤ s.outstandingCount

namespace State.OnlyCountsOff

theorem refl (s : State) : s.OnlyCountsOff s := ⟨rfl, fun _ => Nat.le_refl _⟩

theorem trans {s t u : State} (h : s.OnlyCountsOff t) (g : t.OnlyCountsOff u) : s.OnlyCountsOff u where
  state := g.state.trans h.state
  outstanding := fun halted =>
    (g.outstanding (by simpa [State.halted, h.state] using halted)).trans (h.outstanding halted)

theorem of_sameRun {s t : State} (h : s.SameRun t) : s.OnlyCountsOff t where
  state := by rw [h.run]
  outstanding := fun halted => by simp [State.outstandingCount, h.entries, h.quiet halted]

theorem of_sameBlocks {s t : State} (h : s.SameBlocks t) : s.OnlyCountsOff t := of_sameRun h.sameRun

/-- A run of such changes is one. -/
theorem foldl {α : Type} {f : State → α → State} (h : ∀ (t : State) a, t.OnlyCountsOff (f t a)) (l : List α) :
    ∀ s : State, s.OnlyCountsOff (l.foldl f s) := by
  induction l with
  | nil => exact refl
  | cons a l ih => exact fun s => (h s a).trans (ih _)

end State.OnlyCountsOff

open State.OnlyCountsOff (refl of_sameRun of_sameBlocks)

theorem State.dropPort_onlyCountsOff (tag : Nat) : s.OnlyCountsOff (s.dropPort tag) :=
  ⟨rfl, fun _ => Nat.add_le_add_right (List.length_filter_le _ _) _⟩

theorem State.dropWrite_onlyCountsOff (tag : Nat) : s.OnlyCountsOff (s.dropWrite tag) :=
  ⟨rfl, fun _ => Nat.add_le_add_left (List.length_filter_le _ _) _⟩

theorem State.setReceiver_onlyCountsOff (r : Receiver) : s.OnlyCountsOff (s.setReceiver r) := ⟨rfl, fun _ => Nat.le_refl _⟩

theorem State.answered_onlyCountsOff {α : Type} (halted : s.halted = true) (tag : Nat) (pick : PortRole → Option α)
    (deliver : α → State → State) : s.OnlyCountsOff (s.answered tag pick deliver) := by
  rcases s.answered_halted_cases halted tag pick deliver with e | e <;> rw [e]
  · exact refl s
  · exact s.dropPort_onlyCountsOff tag

theorem State.responded_onlyCountsOff {α : Type} (halted : s.halted = true) (tag : Nat) (pick : WriteRole → Option α)
    (deliver : α → State → State) : s.OnlyCountsOff (s.responded tag pick deliver) := by
  rcases s.responded_halted_cases halted tag pick deliver with e | e <;> rw [e]
  · exact refl s
  · exact s.dropWrite_onlyCountsOff tag

/-! ### The memory path and the events of a frame -/

/-- The arbiter admits nothing in STOPPED and FAULT (spec 09 R153). -/
theorem admitOne_halted (halted : s.halted = true) : admitOne s = s := by simp [admitOne, State.entryFree, halted]

theorem performStep_halted (halted : s.halted = true) (x : MemoryStep) : s.OnlyCountsOff (performStep x s) := by
  cases x with
  | admission =>
    rw [performStep, admitOne_halted s halted]
    exact refl s
  | claimServiceStart p => exact of_sameBlocks (startService_same s p)
  | sealingEntry k => exact of_sameBlocks (enterSealing_same s k)
  | rowWriteResponse | metadataCopyResponse | frameRecordResponse | viewTallyResponse | linkTallyResponse
  | adoptionWordResponse => exact s.responded_onlyCountsOff halted _ _ _
  | slotReadAnswer | claimAnswer | refusalAnswer | firstWriteAnswer | returnAnswer | sealingAnswer =>
    exact s.answered_onlyCountsOff halted _ _ _

/-- No step between two notices leaves the run state, and in STOPPED and FAULT none issues anything. -/
theorem takeMemoryStep_onlyCountsOff (x : MemoryStep) : s.OnlyCountsOff (takeMemoryStep x s) where
  state := by rw [(takeMemoryStep_same s x).run]
  outstanding := fun halted => by
    unfold takeMemoryStep
    split
    · exact Nat.le_refl _
    · exact (performStep_halted s halted x).outstanding halted

theorem takeBetween_onlyCountsOff (between : List NoticeStep) (row : Nat) : s.OnlyCountsOff (takeBetween between row s) := by
  unfold takeBetween
  exact State.OnlyCountsOff.foldl (fun t (a : NoticeStep) => takeMemoryStep_onlyCountsOff t a.step) _ s

theorem resolveRow_onlyCountsOff (between : List NoticeStep) (payload : Option (List Byte)) (row : Nat) :
    s.OnlyCountsOff (resolveRow between payload row s) :=
  (takeBetween_onlyCountsOff s between row).trans
    (of_sameBlocks (State.eachView_same _ _ fun k t => rowNotice_same t _ _ _ k))

theorem resolveMissing_onlyCountsOff (between : List NoticeStep) (first count : Nat) :
    s.OnlyCountsOff (resolveMissing between first count s) := by
  unfold resolveMissing
  exact State.OnlyCountsOff.foldl (fun t row => resolveRow_onlyCountsOff t between none row) _ s

theorem takePixelRow_onlyCountsOff (between : List NoticeStep) (row : Nat) (payload : List Byte) :
    s.OnlyCountsOff (takePixelRow between row payload s) := by
  unfold takePixelRow
  split
  · exact of_sameRun (s.setTracker_sameRun _)
  · have opened : s.OnlyCountsOff
        (restartDeadline ((closeMetadata s).setTracker { (closeMetadata s).tracker with state := .body })) :=
      of_sameRun (((closeMetadata_same s).sameRun.trans (State.setTracker_sameRun _ _)).trans (restartDeadline_sameRun _))
    dsimp only
    generalize restartDeadline ((closeMetadata s).setTracker { (closeMetadata s).tracker with state := .body }) = t at opened ⊢
    split
    · exact opened.trans (of_sameRun (t.setTracker_sameRun _))
    · have missing := resolveMissing_onlyCountsOff t between t.tracker.nextRow (row - t.tracker.nextRow)
      exact ((opened.trans missing).trans (resolveRow_onlyCountsOff _ _ _ _)).trans (of_sameRun (State.setTracker_sameRun _ _))

theorem takeFrameEnd_onlyCountsOff (between : List NoticeStep) (number : Half) :
    s.OnlyCountsOff (takeFrameEnd between number s) := by
  unfold takeFrameEnd
  split
  · exact of_sameRun (s.setTracker_sameRun _)
  · have closed := of_sameBlocks (closeMetadata_same s)
    exact (closed.trans (resolveMissing_onlyCountsOff _ _ _ _)).trans
      (of_sameRun ((State.setTracker_sameRun _ _).trans (announceEnd_sameRun _)))

theorem passPacket_onlyCountsOff (between : List NoticeStep) (h : BitVec 64) (payload : List Byte) :
    s.OnlyCountsOff (passPacket between h payload s) := by
  unfold passPacket
  split
  · exact of_sameRun (takeFrameStart_sameRun s _ _ _ _)
  · exact of_sameRun (takeMetaRow_sameRun s _)
  · exact takePixelRow_onlyCountsOff s _ _ _
  · exact takeFrameEnd_onlyCountsOff s _ _
  · exact refl s
  · exact refl s

/-- The gap deadline reached: the timebase set, and a truncation at most. -/
theorem expireGap_onlyCountsOff : s.OnlyCountsOff (expireGap s) := by
  unfold expireGap
  split
  · rename_i d _
    split
    · have timed : s.OnlyCountsOff { s with timebase := d } := ⟨rfl, fun _ => Nat.le_refl _⟩
      exact timed.trans (of_sameRun (truncateFrame_sameRun _ _))
    · exact refl s
  · exact refl s

/-! ### The link receiver -/

theorem State.receive_onlyCountsOff (runs : LaneRuns) : s.OnlyCountsOff (s.receive runs) := s.setReceiver_onlyCountsOff _

theorem loseLock_onlyCountsOff : s.OnlyCountsOff (loseLock s) :=
  (s.setReceiver_onlyCountsOff _).trans
    (of_sameRun ((State.raise_same _ _).sameRun.trans (truncateFrame_sameRun _ _)))

theorem endVerify_onlyCountsOff : s.OnlyCountsOff (endVerify s) := by
  unfold endVerify
  split
  · exact (s.setReceiver_onlyCountsOff _).trans (of_sameBlocks (State.raise_same _ _))
  · exact refl s

theorem takeLockedBoundary_onlyCountsOff : s.OnlyCountsOff (takeLockedBoundary s) := by
  unfold takeLockedBoundary
  split
  · split
    · exact s.setReceiver_onlyCountsOff _
    · exact loseLock_onlyCountsOff s
  · exact refl s

theorem judgeLocked_onlyCountsOff (h : BitVec 64) : s.OnlyCountsOff (judgeLocked h s) := by
  unfold judgeLocked
  split
  · unfold takeGoodHeader
    split <;> exact s.setReceiver_onlyCountsOff _
  · unfold takeBadHeader
    dsimp only
    split
    · exact (s.setReceiver_onlyCountsOff _).trans (loseLock_onlyCountsOff _)
    · split <;> exact s.setReceiver_onlyCountsOff _

theorem takeLockedHeader_onlyCountsOff : s.OnlyCountsOff (takeLockedHeader s) := by
  unfold takeLockedHeader
  split
  · split
    · exact (s.setReceiver_onlyCountsOff _).trans (judgeLocked_onlyCountsOff _ _)
    · exact refl s
  · exact refl s

theorem completePacket_onlyCountsOff (between : List NoticeStep) (h : BitVec 64) (body : List Byte) :
    s.OnlyCountsOff (completePacket between h body s) := by
  unfold completePacket
  split
  · exact (s.setReceiver_onlyCountsOff _).trans (passPacket_onlyCountsOff _ _ _ _)
  · exact s.setReceiver_onlyCountsOff _

theorem takePacket_onlyCountsOff (between : List NoticeStep) : s.OnlyCountsOff (takePacket between s) := by
  unfold takePacket
  split
  · exact refl s
  · split
    · split
      · exact completePacket_onlyCountsOff s _ _ _
      · exact refl s
    · exact refl s

/-! ### Register writes and the passage to STOPPED -/

/-- A register write at no writable offset changes nothing (R160). -/
theorem writeRegister_ignored {offset : Nat} (h : writableOffsets.contains offset = false) (value : Word) :
    writeRegister offset value s = s := by
  simp [writableOffsets] at h
  simp [writeRegister, h]

/-- A write the window ignores changes nothing (R160). -/
theorem writeWindow_ignored {offset width : Nat} (h : ignoredWrite offset width = true) (value : DWord) :
    writeWindow offset width value s = s := by
  simp only [ignoredWrite, Bool.or_eq_true, Bool.and_eq_true, decide_eq_true_eq, Bool.not_eq_true'] at h
  unfold writeWindow
  rcases h with (narrow | ⟨rfl, unlisted⟩) | ⟨⟨⟨rfl, aligned⟩, low⟩, high⟩
  · rw [if_neg (by omega), if_neg (by omega)]
  · exact writeRegister_ignored s unlisted _
  · rw [if_neg (by decide), if_pos ⟨rfl, aligned⟩, writeRegister_ignored s low, writeRegister_ignored s high]

/-- ANCHOR is replaced in STOPPED alone (R162). -/
theorem writeAnchorLo_locked (h : s.run.state ≠ .stopped) (value : Word) : writeAnchorLo value s = s := if_neg h

theorem writeAnchorHi_locked (h : s.run.state ≠ .stopped) (value : Word) : writeAnchorHi value s = s := if_neg h

/-- Only a STOPPING or ABORTING run passes to STOPPED (R169). -/
theorem reachStopped_elsewhere (h : ¬(s.run.state = .stopping ∨ s.run.state = .aborting)) : reachStopped s = s :=
  if_neg fun stops => h ((s.canStop_iff).mp stops).1

/-! ### FAULT is kept -/

/-- In FAULT every command its row describes, but for CLEAR_FAULT and the resets, keeps the run state and issues nothing. -/
theorem exec_fault_onlyCountsOff (fault : s.run.state = .fault) (wellFormed : c.wellFormed = true) (notReset : c ≠ .reset)
    (notPowerOn : c ≠ .powerOnReset) (notPort : c ≠ .portReset) (notClear : c ≠ .clearFault) :
    ∃ t, exec c s = .next t ∧ s.OnlyCountsOff t := by
  have halted : s.halted = true := by simp [State.halted, fault]
  have locked : s.run.state ≠ .stopped := by simp [fault]
  have received (runs : LaneRuns) := s.receive_onlyCountsOff runs
  cases c with
  | reset => exact absurd rfl notReset
  | powerOnReset => exact absurd rfl notPowerOn
  | portReset => exact absurd rfl notPort
  | clearFault => exact absurd rfl notClear
  | start | stop | abort =>
    exact ⟨_, exec_refusedState s (by simp) (by rw [fault]; rfl), rfl, fun _ => Nat.le_refl _⟩
  | unknownCode code => exact ⟨_, exec_unknownCode s wellFormed, rfl, fun _ => Nat.le_refl _⟩
  | attention value | attentionEnable value => exact ⟨_, rfl, rfl, fun _ => Nat.le_refl _⟩
  | anchorLo value => exact ⟨s, congrArg _ (writeAnchorLo_locked s locked value), refl s⟩
  | anchorHi value => exact ⟨s, congrArg _ (writeAnchorHi_locked s locked value), refl s⟩
  | ignoredRegisterWrite offset width value => exact ⟨s, congrArg _ (writeWindow_ignored s wellFormed value), refl s⟩
  | alignmentWordMatch lane run => exact ⟨_, rfl, (received _).trans (State.setReceiver_onlyCountsOff _ _)⟩
  | verifyHeader runs | verifyBoundary runs | boundarySearch runs =>
    exact ⟨_, rfl, (received runs).trans (State.setReceiver_onlyCountsOff _ _)⟩
  | verifyExtentEnd => exact ⟨_, rfl, endVerify_onlyCountsOff s⟩
  | lockedBoundary runs => exact ⟨_, rfl, (received runs).trans (takeLockedBoundary_onlyCountsOff _)⟩
  | lockedHeader runs => exact ⟨_, rfl, (received runs).trans (takeLockedHeader_onlyCountsOff _)⟩
  | packetComplete last => exact ⟨_, rfl, (received last.runs).trans (takePacket_onlyCountsOff _ _)⟩
  | gapTimeout => exact ⟨_, rfl, expireGap_onlyCountsOff s⟩
  | admission => exact ⟨s, congrArg _ (admitOne_halted s halted), refl s⟩
  | claimServiceStart pool => exact ⟨_, rfl, of_sameBlocks (startService_same s pool)⟩
  | sealingEntry view => exact ⟨_, rfl, of_sameBlocks (enterSealing_same s view)⟩
  | runStopped => exact ⟨s, congrArg _ (reachStopped_elsewhere s (by simp [fault])), refl s⟩
  | linkWordAnswer | poolTableAnswer | startSelectorAnswer | startPageAnswer | selectorAnswer | pageAnswer
  | slotReadAnswer | claimAnswer | refusalAnswer | firstWriteAnswer | returnAnswer | sealingAnswer =>
    exact ⟨_, rfl, s.answered_onlyCountsOff halted _ _ _⟩
  | adoptionWordResponse | linkTallyResponse | rowWriteResponse | metadataCopyResponse | frameRecordResponse
  | viewTallyResponse => exact ⟨_, rfl, s.responded_onlyCountsOff halted _ _ _⟩

theorem State.outstandingCount_eq_zero : s.outstandingCount = 0 ↔ s.port.entries = [] ∧ s.queue.entries = [] := by
  simp [State.outstandingCount]

end Sys2Proof.Machine

namespace Sys2Proof

open Sys2Proof.Machine

/-- Settles O8: CLEAR_FAULT by its three cases, the answers as counted off, and every other command by
`exec_fault_onlyCountsOff`. -/
theorem clearFaultAndFaultState : Obligations.ClearFaultAndFaultState := by
  refine ⟨fun s outside => ?_, fun s fault reads writes => ?_, fun s fault outstanding => ?_,
    fun s c r tag fault answers awaited => ?_, fun s c r tag fault responds awaited => ?_,
    fun s t c fault wellFormed run notReset notPowerOn notPort notClear => ?_⟩
  · exact exec_refusedState s (by simp) (by simpa [acceptedIn] using outside)
  · exact congrArg _ (takeClearFault_accepted s fault (s.outstandingCount_eq_zero.mpr ⟨reads, writes⟩))
  · refine congrArg _ (takeClearFault_busy s fault fun quiet => ?_)
    obtain ⟨noReads, noWrites⟩ := s.outstandingCount_eq_zero.mp quiet
    exact outstanding.elim (· noReads) (· noWrites)
  · exact exec_answer_halted s answers (by simp [State.halted, fault]) awaited
  · exact exec_response_halted s responds (by simp [State.halted, fault]) awaited
  · obtain ⟨u, next, counted⟩ := exec_fault_onlyCountsOff s fault wellFormed notReset notPowerOn notPort notClear
    obtain rfl : u = t := by simpa [next] using run
    exact ⟨counted.state.trans fault, counted.outstanding (by simp [State.halted, fault])⟩

end Sys2Proof
end

section
/-! The answers that send the run to FAULT, and the errors that do not (R170, Table 9-2). -/

namespace Sys2Proof.Machine

variable (s : State) {k : ViewId} {tag : Nat}

/-! ### Answers that enter FAULT -/

/-- In a live run an answer whose owner enters FAULT leaves every block as R170 has it, its transaction counted off. -/
theorem exec_answer_faults {α : Type} {c : Instr} {r : PortRole} {owner : α} {pick : PortRole → Option α}
    {deliver : α → State → State} (run : exec c s = .next (s.answered tag pick deliver)) (live : s.live)
    (awaited : s.awaits tag r) (picked : pick r = some owner)
    (faults : deliver owner (s.dropPort tag) = (s.dropPort tag).enterFault) :
    exec c s = .next (faultedFrom (s.dropPort tag)) := by
  rw [run, s.answered_live deliver awaited picked live, faults, State.enterFault_eq]

theorem exec_response_faults {α : Type} {c : Instr} {r : WriteRole} {owner : α} {pick : WriteRole → Option α}
    {deliver : α → State → State} (run : exec c s = .next (s.responded tag pick deliver)) (live : s.live)
    (awaited : s.awaitsWrite tag r) (picked : pick r = some owner)
    (faults : deliver owner (s.dropWrite tag) = (s.dropWrite tag).enterFault) :
    exec c s = .next (faultedFrom (s.dropWrite tag)) := by
  rw [run, s.responded_live deliver awaited picked live, faults, State.enterFault_eq]

theorem linkWordAnswered_error (starting : s.run.state = .starting) : linkWordAnswered .error s = s.enterFault := by
  simp [linkWordAnswered, starting]

theorem poolTableAnswered_error (starting : s.run.state = .starting) : poolTableAnswered .error s = s.enterFault := by
  simp [poolTableAnswered, starting]

theorem startSelectorAnswered_error (starting : s.run.state = .starting) (kept : s.plan.discard = false) :
    startSelectorAnswered .error s = s.enterFault := by
  simp [startSelectorAnswered, starting, kept]

/-! ### Attention flags that an operation of a channel raises -/

theorem State.flagged_of_attention {s t : State} (h : t.attention = s.attention) (c : AttentionCause) :
    t.flagged c = s.flagged c := by
  rw [State.flagged, h, State.flagged]

/-- Another cause raised leaves the FAULT flag. -/
theorem State.flagged_fault_raise {c : AttentionCause} (h : c ≠ .fault) : (s.raise c).flagged .fault = s.flagged .fault := by
  have other : AttentionCause.fault.bit ≠ c.bit := by
    cases c
    case fault => exact absurd rfl h
    all_goals decide
  rw [Bool.eq_iff_iff, State.flagged_iff, State.flagged_iff]
  simp [other]

/-- What an operation on a view frame keeps whatever the view frame is, it keeps when there is none too. -/
theorem State.withFrame_induct {f : ViewFrame → State} (P : State → Prop) (h0 : P s) (h : ∀ v, P (f v)) :
    P (s.withFrame k f) := by
  unfold State.withFrame
  split
  · exact h _
  · exact h0

theorem State.withFrame_attention {f : ViewFrame → State} (h : ∀ v, (f v).attention = s.attention) :
    (s.withFrame k f).attention = s.attention :=
  s.withFrame_induct (fun t => t.attention = s.attention) rfl h

/-- The closing step raises nothing. -/
@[simp] theorem closeFrame_attention (c : OutcomeClass) (x : OutcomeCause) : (closeFrame k c x s).attention = s.attention :=
  s.withFrame_attention fun _ => by simp

@[simp] theorem returnSlot_attention (v : ViewFrame) : (returnSlot k v s).attention = s.attention := by
  unfold returnSlot
  dsimp only
  split <;> simp [State.exchangeSlot]

/-- An abandonment raises nothing. -/
@[simp] theorem abandonFrame_attention (c : OutcomeCause) (time : DWord) : (abandonFrame k c time s).attention = s.attention := by
  refine s.withFrame_attention fun v => ?_
  split
  · rfl
  · split <;> simp

/-- A failed claim raises FRAME_SKIPPED at most. -/
theorem claimFailed_flagged_fault (x : OutcomeCause) (k : ViewId) : (claimFailed x k s).flagged .fault = s.flagged .fault := by
  refine s.withFrame_induct (fun t => t.flagged .fault = s.flagged .fault) rfl fun v => ?_
  dsimp only
  split
  · rfl
  · split
    · rw [State.flagged_of_attention (closeFrame_attention _ _ _), State.flagged_fault_raise _ (by decide)]
      rfl
    · exact State.flagged_of_attention (closeFrame_attention _ _ _) _
    all_goals rfl

/-- An operation that leaves the FAULT flag leaves it on every view. -/
theorem State.eachView_flagged_fault {f : ViewId → State → State}
    (h : ∀ k (t : State), (f k t).flagged .fault = t.flagged .fault) :
    (s.eachView f).flagged .fault = s.flagged .fault := by
  simp [State.eachView, allViews, h]

/-! ### Errors that keep the run out of FAULT -/

/-- `t` stands in the run state of `s`, and FAULT is flagged in both or in neither. -/
structure State.NoFault (s t : State) : Prop where
  state : t.run.state = s.run.state
  flag : t.flagged .fault = s.flagged .fault

namespace State.NoFault

theorem trans {s t u : State} (h : s.NoFault t) (g : t.NoFault u) : s.NoFault u :=
  ⟨g.state.trans h.state, g.flag.trans h.flag⟩

theorem of_attention {s t : State} (state : t.run.state = s.run.state) (attention : t.attention = s.attention) : s.NoFault t :=
  ⟨state, State.flagged_of_attention attention _⟩

end State.NoFault

open State.NoFault (of_attention)

/-- An answer whose delivery keeps the run out of FAULT keeps it out, discarded or not. -/
theorem State.answered_noFault {α : Type} {pick : PortRole → Option α} {deliver : α → State → State}
    (h : ∀ owner (t : State), t.NoFault (deliver owner t)) : s.NoFault (s.answered tag pick deliver) :=
  s.answered_induct s.NoFault (of_attention rfl rfl) (of_attention rfl rfl)
    fun owner _ => (of_attention rfl rfl : s.NoFault (s.dropPort tag)).trans (h owner _)

theorem State.responded_noFault {α : Type} {pick : WriteRole → Option α} {deliver : α → State → State}
    (h : ∀ owner (t : State), t.NoFault (deliver owner t)) : s.NoFault (s.responded tag pick deliver) :=
  s.responded_induct s.NoFault (of_attention rfl rfl) (of_attention rfl rfl)
    fun owner _ => (of_attention rfl rfl : s.NoFault (s.dropWrite tag)).trans (h owner _)

theorem quietFetch_noFault : s.NoFault s.quietFetch := of_attention rfl rfl

/-- A rejection raises PLAN_REJECTED alone. -/
theorem reportRejection_noFault (sequence : Word) (reason : Reason) (view : Byte) :
    s.NoFault (reportRejection sequence reason view s) where
  state := by rw [(reportRejection_sameRun s _ _ _).run]
  flag := by
    rw [reportRejection, State.flagged_fault_raise _ (by decide)]
    exact State.flagged_of_attention (by simp) _

theorem failStart_noFault (sequence : Word) (reason : Reason) (view : Byte) : s.NoFault (failStart sequence reason view s) :=
  (reportRejection_noFault s sequence reason view).trans (of_attention rfl rfl)

/-- A running selector read answered ERROR is a rejection (Table 3-3). -/
theorem selectorAnswered_error_noFault : s.NoFault (selectorAnswered .error s) := by
  unfold selectorAnswered
  split
  · exact quietFetch_noFault s
  · exact (quietFetch_noFault s).trans (reportRejection_noFault _ _ _ _)

/-- A running page read answered ERROR is a transient rejection (R53). -/
theorem pageAnswered_error_noFault : s.NoFault (pageAnswered .error s) := by
  unfold pageAnswered
  split
  · exact quietFetch_noFault s
  · exact (quietFetch_noFault s).trans (reportRejection_noFault _ _ _ _)

/-- The page read of START answered ERROR fails START (R49). -/
theorem startPageAnswered_error_noFault : s.NoFault (startPageAnswered .error s) := by
  unfold startPageAnswered
  split
  · exact quietFetch_noFault s
  · exact failStart_noFault s _ _ _

/-- A pool scanner's ERROR faults its pool, not the run (R44). -/
theorem faultPool_noFault (p : PoolId) : s.NoFault (faultPool p s) where
  state := by rw [(faultPool_same s p).run]
  flag := by
    have claims : ∀ (failing : List ViewId) (k : ViewId) (t : State),
        (if failing.contains k then claimFailed .poolFault k t else t).flagged .fault = t.flagged .fault := by
      intro failing k t
      split
      · exact claimFailed_flagged_fault t _ k
      · rfl
    rw [faultPool, State.eachView_flagged_fault _ (claims _), State.flagged_fault_raise _ (by decide)]
    rfl

/-- A row transaction answered ERROR abandons its view frame (spec 09 R155). -/
theorem rowAnswered_error_noFault (k : ViewId) (number index : Nat) : s.NoFault (rowAnswered .error k number index s) :=
  of_attention (by rw [(rowAnswered_same s _ k _ _).run]) (s.withFrame_attention fun _ => by simp)

/-- A metadata copy answered ERROR abandons its view frame (spec 09 R156). -/
theorem copyAnswered_error_noFault (k : ViewId) (number : Half) : s.NoFault (copyAnswered .error k number s) := by
  refine of_attention (by rw [(copyAnswered_same s _ k _).run]) (s.withFrame_attention fun _ => ?_)
  split <;> simp

/-- An ERROR that a plan fetch, a pool scanner, or a row or metadata write meets enters no FAULT (Table 9-2). -/
theorem exec_error_noFault {c : Instr}
    (h : c = .selectorAnswer tag .error ∨ c = .pageAnswer tag .error ∨ c = .startPageAnswer tag .error
      ∨ c = .slotReadAnswer tag .error ∨ c = .claimAnswer tag .error ∨ c = .refusalAnswer tag .error
      ∨ c = .rowWriteResponse tag .error ∨ c = .metadataCopyResponse tag .error) :
    ∃ t, exec c s = .next t ∧ s.NoFault t := by
  rcases h with rfl | rfl | rfl | rfl | rfl | rfl | rfl | rfl
  · exact ⟨_, rfl, s.answered_noFault fun _ t => selectorAnswered_error_noFault t⟩
  · exact ⟨_, rfl, s.answered_noFault fun _ t => pageAnswered_error_noFault t⟩
  · exact ⟨_, rfl, s.answered_noFault fun _ t => startPageAnswered_error_noFault t⟩
  · exact ⟨_, rfl, s.answered_noFault fun p t => faultPool_noFault t p⟩
  · exact ⟨_, rfl, s.answered_noFault fun p t => faultPool_noFault t p⟩
  · exact ⟨_, rfl, s.answered_noFault fun p t => faultPool_noFault t p⟩
  · exact ⟨_, rfl, s.responded_noFault fun x t => rowAnswered_error_noFault t x.1 x.2.1 x.2.2⟩
  · exact ⟨_, rfl, s.responded_noFault fun x t => copyAnswered_error_noFault t x.1 x.2⟩

/-! ### The clauses of R170 -/

/-- An ERROR on a read of the START sequence but its page enters FAULT. -/
theorem exec_start_error (starting : s.run.state = .starting) :
    (s.awaits tag .linkWord → exec (.linkWordAnswer tag .error) s = .next (faultedFrom (s.dropPort tag)))
      ∧ (s.awaits tag .poolTable → exec (.poolTableAnswer tag .error) s = .next (faultedFrom (s.dropPort tag)))
      ∧ (s.awaits tag .startSelector → s.plan.discard = false →
        exec (.startSelectorAnswer tag .error) s = .next (faultedFrom (s.dropPort tag))) := by
  have live : s.live := by simp [State.live, starting]
  refine ⟨fun awaited => ?_, fun awaited => ?_, fun awaited kept => ?_⟩
  · exact exec_answer_faults s rfl live awaited rfl (linkWordAnswered_error _ starting)
  · exact exec_answer_faults s rfl live awaited rfl (poolTableAnswered_error _ starting)
  · exact exec_answer_faults s rfl live awaited rfl (startSelectorAnswered_error _ starting kept)

/-- In STOPPED and FAULT no answer does more than count a transaction off. -/
theorem exec_answer_or_response_halted {c : Instr} (halted : s.halted = true)
    (h : (∃ r, answersTo c r = some tag) ∨ ∃ r, respondsTo c r = some tag) :
    exec c s = .next s ∨ exec c s = .next (s.dropPort tag) ∨ exec c s = .next (s.dropWrite tag) := by
  rcases h with ⟨r, answers⟩ | ⟨r, responds⟩
  · obtain ⟨_, pick, deliver, -, run⟩ := exec_answer answers
    rcases s.answered_halted_cases halted tag pick deliver with e | e <;> simp [run, e]
  · obtain ⟨_, pick, deliver, -, run⟩ := exec_response responds
    rcases s.responded_halted_cases halted tag pick deliver with e | e <;> simp [run, e]

end Sys2Proof.Machine

namespace Sys2Proof

open Sys2Proof.Machine

/-- Settles O40: the answers delivered to an owner that enters FAULT, the errors that raise another cause or none, and the answers
of a halted run. -/
theorem faultEntered : Obligations.FaultEntered := by
  refine ⟨fun s tag starting => exec_start_error s starting, fun s tag k live => ?_, fun s t c tag _ errors run => ?_,
    fun s t c tag fault answer run => ?_⟩
  · exact ⟨fun awaited => exec_answer_faults s rfl live awaited rfl rfl,
      fun awaited => exec_answer_faults s rfl live awaited rfl rfl,
      fun awaited => exec_answer_faults s rfl live awaited rfl rfl,
      fun awaited => exec_response_faults s rfl live awaited rfl rfl,
      fun _ awaited => exec_response_faults s rfl live awaited rfl rfl,
      fun awaited => exec_response_faults s rfl live awaited rfl rfl,
      fun awaited => exec_response_faults s rfl live awaited rfl rfl⟩
  · obtain ⟨u, next, kept⟩ := exec_error_noFault s errors
    obtain rfl : u = t := by simpa [next] using run
    exact ⟨kept.state, kept.flag⟩
  · simpa [run] using exec_answer_or_response_halted s (by simp [State.halted, fault]) answer

end Sys2Proof
end

section
/-! What every command does to the transactions and the channels of the part, said once: the bookkeeping for the promises of channels,
of the memory path and of tags (02 R25, 06 R98, 09 R148, R151, R152; log 2). -/

namespace Sys2Proof.Machine

/-! ### A sound channel -/

/-- A view frame as a channel in this state may carry it: the promises on staging and on the slot word, and a state that is not IDLE. -/
structure ViewFrame.SoundIn (state : ChannelState) (v : ViewFrame) : Prop where
  opened : state ≠ .idle
  staging : v.staging.length ≤ 2
  claim : v.claimInFlight = true → v.slot = none ∧ v.firstWrite = .notIssued
  word : ∀ slot : Slot, v.slot = some slot → slotState slot.word = if v.firstWrite = .exchanged then .filling else .taken
  sealing : state = .sealing → v.firstWrite = .exchanged

/-- IDLE with no view frame, or a view frame that its state may carry. -/
def Channel.Sound (c : Channel) : Prop :=
  match c.frame with
  | none => c.state = .idle
  | some v => v.SoundIn c.state

theorem Channel.sound_none {c : Channel} (h : c.frame = none) : c.Sound ↔ c.state = .idle := by simp [Channel.Sound, h]

theorem Channel.sound_some {c : Channel} {v : ViewFrame} (h : c.frame = some v) : c.Sound ↔ v.SoundIn c.state := by
  simp [Channel.Sound, h]

/-- The three promises of a channel are the soundness of it. -/
theorem State.channels_sound_iff (s : State) :
    (∀ k, (s.channel k).Sound) ↔ s.framesMatch ∧ s.stagingBounded ∧ ∀ k, (s.channel k).slotInStep := by
  constructor
  · intro sound
    refine ⟨fun k => ?_, fun k v hv => ?_, fun k v hv => ?_⟩
    · cases hv : (s.channel k).frame with
      | none => simpa [Channel.sound_none hv] using sound k
      | some v => simpa using ((Channel.sound_some hv).mp (sound k)).opened
    · exact ((Channel.sound_some hv).mp (sound k)).staging
    · have h := (Channel.sound_some hv).mp (sound k)
      exact ⟨h.claim, h.word, h.sealing⟩
  · rintro ⟨frames, staging, slots⟩ k
    cases hv : (s.channel k).frame with
    | none => exact (Channel.sound_none hv).mpr ((frames k).mpr hv)
    | some v =>
      obtain ⟨claim, word, sealing⟩ := slots k v hv
      exact (Channel.sound_some hv).mpr
        ⟨fun idle => by simp [(frames k).mp idle] at hv, staging k v hv, claim, word, sealing⟩

namespace ViewFrame.SoundIn

variable {a b : ChannelState} {v w : ViewFrame}

/-- A view frame with claim, slot and first write as they were stays sound in a state that asks for no more. -/
theorem remade (h : v.SoundIn a) (opened : b ≠ .idle) (staging : w.staging.length ≤ 2) (claim : w.claimInFlight = v.claimInFlight)
    (slot : w.slot = v.slot) (first : w.firstWrite = v.firstWrite) (sealing : b = .sealing → v.firstWrite = .exchanged) :
    w.SoundIn b where
  opened := opened
  staging := staging
  claim := by rw [claim, slot, first]; exact h.claim
  word := by rw [slot, first]; exact h.word
  sealing := by rw [first]; exact sealing

/-- With its state kept too, only the staging matters. -/
theorem restaged (h : v.SoundIn a) (staging : w.staging.length ≤ 2) (claim : w.claimInFlight = v.claimInFlight)
    (slot : w.slot = v.slot) (first : w.firstWrite = v.firstWrite) : w.SoundIn a :=
  h.remade h.opened staging claim slot first h.sealing

/-- A view frame that has given its slot up. -/
theorem slotless (h : v.SoundIn a) (opened : b ≠ .idle) (staging : w.staging.length ≤ 2) (slot : w.slot = none)
    (claim : w.claimInFlight = v.claimInFlight) (first : w.firstWrite = v.firstWrite)
    (sealing : b = .sealing → v.firstWrite = .exchanged) : w.SoundIn b where
  opened := opened
  staging := staging
  claim := by rw [claim, first]; exact fun flying => ⟨slot, (h.claim flying).2⟩
  word := by simp [slot]
  sealing := by rw [first]; exact sealing

/-- A view frame with a slot has no claim in flight. -/
theorem landed (h : v.SoundIn a) {x : Slot} (slot : v.slot = some x) : v.claimInFlight = false := by
  cases flying : v.claimInFlight with
  | false => rfl
  | true => simp [(h.claim flying).1] at slot

end ViewFrame.SoundIn

/-! ### The words of a slot -/

theorem slotState_append (x : BitVec 24) (n : SlotState) : slotState (x ++ n.code) = n := by
  have low : (x ++ n.code).extractLsb' 0 8 = n.code := by
    apply BitVec.eq_of_getLsbD_eq
    intro i hi
    rw [BitVec.getLsbD_extractLsb', Nat.zero_add]
    exact (congrArg (decide (i < 8) && ·) BitVec.getLsbD_append).trans (by simp [hi])
  rw [slotState, low]
  cases n <;> decide

@[simp] theorem slotState_withSlotState (w : Word) (n : SlotState) : slotState (withSlotState w n) = n := slotState_append _ n

@[simp] theorem slotState_freshSlotWord (n : SlotState) (k : ViewId) (tag : Half) : slotState (freshSlotWord n k tag) = n :=
  slotState_append _ n

/-! ### What the part may do -/

/-- What a step of any kind is made of, as far as transactions, requests and the soundness of channels go: a read or compare-exchange
issued, one of the six transitions as long as every channel is sound; a write admitted to a free entry; a request asked for; and
whatever brings nothing new and keeps sound channels sound. -/
inductive State.Acts : State → State → Prop where
  | leaves {s t : State} (channels : (∀ k, (s.channel k).Sound) → ∀ k, (t.channel k).Sound)
      (tags : t.port.nextTag = s.port.nextTag) (reads : t.port.entries.Sublist s.port.entries)
      (writes : t.queue.entries.Sublist s.queue.entries) (requests : t.queue.requests.Sublist s.queue.requests) : Acts s t
  | issues (s : State) (role : PortRole) (access : PortAccess)
      (transition : (∀ k, (s.channel k).Sound) → ∀ tag, PortEntry.isTransition { tag := tag, role := role, access := access }) :
      Acts s (s.issue role access)
  | admits (s : State) (role : WriteRole) (address : DWord) (data : List Byte) (free : s.queue.entries.length < 32) :
      Acts s (s.enqueue role address data)
  | asks (s : State) (r : Request) : Acts s (s.ask r)
  | trans {s t u : State} (first : Acts s t) (second : Acts t u) : Acts s u

namespace State.Acts

/-- Channels, port and queue are as they were. -/
theorem of_eq {s t : State} (channels : t.channels = s.channels) (port : t.port = s.port) (queue : t.queue = s.queue) : s.Acts t := by
  refine .leaves (fun sound k => ?_) (by rw [port]) (by rw [port]) (by rw [queue]) (by rw [queue])
  rw [State.channel_of_channels channels]
  exact sound k

theorem refl (s : State) : s.Acts s := of_eq rfl rfl rfl

end State.Acts

open State.Acts (refl of_eq)

variable (s : State) {k : ViewId}

/-! ### The setters -/

theorem State.raise_acts (c : AttentionCause) : s.Acts (s.raise c) := of_eq rfl rfl rfl

theorem State.setScanner_acts (p : PoolId) (x : Scanner) : s.Acts (s.setScanner p x) := of_eq rfl rfl rfl

theorem State.setTracker_acts (t : Tracker) : s.Acts (s.setTracker t) := of_eq rfl rfl rfl

theorem State.setPlan_acts (p : PlanUnit) : s.Acts (s.setPlan p) := of_eq rfl rfl rfl

theorem State.setReceiver_acts (r : Receiver) : s.Acts (s.setReceiver r) := of_eq rfl rfl rfl

theorem State.setRunState_acts (r : RunState) : s.Acts (s.setRunState r) := of_eq rfl rfl rfl

theorem State.record_acts (r : CommandResult) : s.Acts (s.record r) := of_eq rfl rfl rfl

theorem State.setProgress_acts (p : StartProgress) : s.Acts (s.setProgress p) := of_eq rfl rfl rfl

/-- A request list with some requests taken out. -/
theorem State.requests_acts {l : List Request} (h : l.Sublist s.queue.requests) :
    s.Acts { s with queue := { s.queue with requests := l } } :=
  .leaves (fun sound => sound) rfl (List.Sublist.refl _) (List.Sublist.refl _) h

theorem State.withdraw_acts (r : Request) : s.Acts (s.withdraw r) := s.requests_acts List.filter_sublist

theorem State.dropPort_acts (tag : Nat) : s.Acts (s.dropPort tag) :=
  .leaves (fun sound => sound) rfl List.filter_sublist (List.Sublist.refl _) (List.Sublist.refl _)

theorem State.dropWrite_acts (tag : Nat) : s.Acts (s.dropWrite tag) :=
  .leaves (fun sound => sound) rfl (List.Sublist.refl _) List.filter_sublist (List.Sublist.refl _)

/-- A channel replaced, sound if the one before it was. -/
theorem State.setChannel_acts {c : Channel} (h : (s.channel k).Sound → c.Sound) : s.Acts (s.setChannel k c) := by
  refine .leaves (fun sound j => ?_) rfl (List.Sublist.refl _) (List.Sublist.refl _) (List.Sublist.refl _)
  by_cases here : j = k
  · subst here
    rw [State.channel_setChannel_same]
    exact h (sound j)
  · rw [State.channel_setChannel_other s here]
    exact sound j

/-- A channel moved on with its view frame. -/
theorem State.moveChannel_acts {v w : ViewFrame} {c : ChannelState} (hv : (s.channel k).frame = some v)
    (h : v.SoundIn (s.channel k).state → w.SoundIn c) : s.Acts (s.moveChannel k c w) :=
  s.setChannel_acts fun sound => h ((Channel.sound_some hv).mp sound)

theorem State.setFrame_acts {v w : ViewFrame} (hv : (s.channel k).frame = some v)
    (h : v.SoundIn (s.channel k).state → w.SoundIn (s.channel k).state) : s.Acts (s.setFrame k w) :=
  s.setChannel_acts fun sound => h ((Channel.sound_some hv).mp sound)

theorem State.withFrame_acts {f : ViewFrame → State} (h : ∀ v, (s.channel k).frame = some v → s.Acts (f v)) :
    s.Acts (s.withFrame k f) := by
  unfold State.withFrame
  split
  · exact h _ ‹_›
  · exact refl s

theorem State.foldl_acts {α : Type} {f : State → α → State} (h : ∀ (t : State) a, t.Acts (f t a)) (l : List α) :
    ∀ s : State, s.Acts (l.foldl f s) := by
  induction l with
  | nil => exact refl
  | cons a l ih => exact fun s => (h s a).trans (ih _)

theorem State.eachView_acts {f : ViewId → State → State} (h : ∀ k (t : State), t.Acts (f k t)) : s.Acts (s.eachView f) :=
  State.foldl_acts (fun t k => h k t) allViews s

/-- A read is no compare-exchange. -/
theorem State.issue_read_acts (role : PortRole) (address : DWord) (bytes : Nat) : s.Acts (s.issue role (.read address bytes)) :=
  .issues s _ _ fun _ _ => trivial

/-- A channel's compare-exchange on the word of its slot, a transition as long as its view frame is sound. -/
theorem State.exchangeSlot_acts {v : ViewFrame} {role : PortRole} {x : Slot} {next : SlotState} (hv : (s.channel k).frame = some v)
    (h : v.SoundIn (s.channel k).state → ∀ tag address, PortEntry.isTransition
      { tag := tag, role := role, access := .compareExchange address x.word (withSlotState x.word next) }) :
    s.Acts (s.exchangeSlot role x next) :=
  .issues s _ _ fun sound _ => h ((Channel.sound_some hv).mp (sound k)) _ _

/-! ### Channels -/

theorem closeFrame_acts (c : OutcomeClass) (x : OutcomeCause) : s.Acts (closeFrame k c x s) := by
  refine s.withFrame_acts fun v hv => (s.setChannel_acts fun sound => ?_).trans (.asks _ _)
  exact (((Channel.sound_some hv).mp sound).restaged (Nat.zero_le _) rfl rfl rfl :
    { v.discarded with staging := [], closing := true : ViewFrame}.SoundIn _)

theorem loseSlot_acts (k : ViewId) : s.Acts (loseSlot k s) := (s.raise_acts _).trans (closeFrame_acts _ _ _)

theorem issueFirstWrite_acts (k : ViewId) : s.Acts (issueFirstWrite k s) := by
  refine s.withFrame_acts fun v hv => ?_
  split
  · exact refl s
  · rename_i x hx
    split
    · rename_i ready
      obtain ⟨-, unissued, -⟩ := ready
      refine (s.setFrame_acts hv fun sound => ?_).trans
        (State.exchangeSlot_acts _ (v := { v with firstWrite := .outstanding }) (by rw [State.channel_setFrame_same])
          fun sound tag address => ?_)
      · have landed := sound.landed hx
        exact ⟨sound.opened, sound.staging, by simp [landed], fun y hy => by simpa [unissued] using sound.word y hy,
          fun sealing => absurd (sound.sealing sealing) (by simp [unissued])⟩
      · have taken := sound.word x hx
        exact ⟨by simpa using taken, by simp⟩
    · exact refl s

theorem enterFlushing_acts (k : ViewId) : s.Acts (enterFlushing k s) := by
  refine s.withFrame_acts fun v hv => ?_
  split
  · exact s.moveChannel_acts hv fun sound => sound.remade (by decide) sound.staging rfl rfl rfl (by simp)
  · exact refl s

theorem advanceActive_acts (k : ViewId) : s.Acts (advanceActive k s) :=
  (issueFirstWrite_acts s k).trans (enterFlushing_acts _ k)

/-- A slot given back while its word reads TAKEN. -/
theorem returnSlot_acts {v w : ViewFrame} (hv : (s.channel k).frame = some v)
    (sound : v.SoundIn (s.channel k).state → w.SoundIn .returning)
    (taken : w.SoundIn .returning → ∀ x, w.slot = some x → slotState x.word = .taken) : s.Acts (returnSlot k w s) := by
  have moved : s.Acts (s.moveChannel k .returning w) := s.moveChannel_acts hv sound
  unfold returnSlot
  dsimp only
  split
  · rename_i x hx
    refine moved.trans (State.exchangeSlot_acts (k := k) (v := w) _ (by simp) fun left tag address => ⟨taken ?_ x hx, by simp⟩)
    simpa using left
  · exact moved

/-- A view frame abandoned with what is staged and not admitted dropped, or withdrawn. -/
theorem ViewFrame.SoundIn.dropped {a b : ChannelState} {v : ViewFrame} (h : v.SoundIn a) (opened : b ≠ .idle) (open' : b ≠ .sealing)
    (c : OutcomeCause) (t : DWord) : (v.mark c t).dropped.SoundIn b :=
  h.remade opened (Nat.zero_le _) rfl rfl rfl fun sealing => absurd sealing open'

theorem ViewFrame.SoundIn.withdrawn {a b : ChannelState} {v : ViewFrame} (h : v.SoundIn a) (opened : b ≠ .idle) (open' : b ≠ .sealing)
    (c : OutcomeCause) (t : DWord) : (v.mark c t).withdrawn.SoundIn b := by
  refine h.remade opened ?_ rfl rfl rfl fun sealing => absurd sealing open'
  calc (freePlaces (v.staging.map CellRow.withdrawn)).length
      ≤ (v.staging.map CellRow.withdrawn).length := List.length_filter_le _ _
    _ = v.staging.length := List.length_map _
    _ ≤ 2 := h.staging

theorem abandonFrame_acts (k : ViewId) (c : OutcomeCause) (t : DWord) : s.Acts (abandonFrame k c t s) := by
  refine s.withFrame_acts fun v hv => ?_
  have flushed : s.Acts ((s.moveChannel k .flushing (v.mark c t).withdrawn).withdraw (.metadataCopy k)) :=
    (s.moveChannel_acts hv fun sound => sound.withdrawn (by decide) (by decide) c t).trans (State.withdraw_acts _ _)
  split
  · exact refl s
  · split
    · exact s.moveChannel_acts hv fun sound => sound.dropped (by decide) (by decide) c t
    · rename_i unissued
      refine returnSlot_acts s hv (fun sound => sound.dropped (by decide) (by decide) c t) fun left x hx => ?_
      have unwritten : (v.mark c t).dropped.firstWrite ≠ .exchanged := by
        change v.firstWrite ≠ .exchanged
        simp [unissued]
      simpa [unwritten] using left.word x hx
    · exact s.moveChannel_acts hv fun sound => sound.dropped (by decide) (by decide) c t
    · exact flushed
    · exact flushed
    all_goals exact refl s

theorem claimFailed_acts (x : OutcomeCause) (k : ViewId) : s.Acts (claimFailed x k s) := by
  refine s.withFrame_acts fun v hv => ?_
  have unclaimed {b : ChannelState} {w : ViewFrame} (h : v.SoundIn b) (staging : w.staging.length ≤ 2)
      (claim : w.claimInFlight = false) (slot : w.slot = v.slot) (first : w.firstWrite = v.firstWrite) (opened : b ≠ .sealing) :
      w.SoundIn .returning :=
    ⟨by decide, staging, by simp [claim], by rw [slot, first]; exact h.word, by simp⟩
  dsimp only
  split
  · exact refl s
  · split
    · rename_i claiming
      have moved := s.moveChannel_acts (c := .returning) (w := { v with claimInFlight := false }.dropped) hv fun sound =>
        unclaimed sound (Nat.zero_le _) rfl rfl rfl (by simp [claiming])
      exact (moved.trans (State.raise_acts _ _)).trans (closeFrame_acts _ _ _)
    · rename_i returning
      refine (s.setFrame_acts hv fun sound => ?_).trans (closeFrame_acts _ _ _)
      rw [returning] at sound ⊢
      exact unclaimed sound sound.staging rfl rfl rfl (by decide)
    all_goals exact refl s

/-- A claim won: the slot's word reads TAKEN, and no first write is issued while the claim is in flight. -/
theorem claimSucceeded_acts (k : ViewId) {slot : Slot} (taken : slotState slot.word = .taken) :
    s.Acts (claimSucceeded k slot s) := by
  refine s.withFrame_acts fun v hv => ?_
  dsimp only
  split
  · exact refl s
  · rename_i flying
    have won {b : ChannelState} (h : v.SoundIn b) (opened : b ≠ .sealing) {a : ChannelState} (ha : a ≠ .idle) (ha' : a ≠ .sealing) :
        ({ v with claimInFlight := false, slot := some slot } : ViewFrame).SoundIn a := by
      have unissued := (h.claim (by simpa using flying)).2
      exact ⟨ha, h.staging, by simp, by rintro _ ⟨⟩; simpa [unissued] using taken, fun sealing => absurd sealing ha'⟩
    split
    · rename_i claiming
      exact (s.moveChannel_acts hv fun sound => won sound (by simp [claiming]) (by decide) (by decide)).trans
        (advanceActive_acts _ k)
    · rename_i returning
      exact returnSlot_acts s hv (fun sound => won sound (by simp [returning]) (by decide) (by decide))
        fun _ x hx => by cases hx; exact taken
    all_goals exact refl s

theorem queueClaim_acts (p : PoolId) (r : ClaimRequest) : s.Acts (queueClaim p r s) := by
  unfold queueClaim
  split
  · exact s.setScanner_acts _ _
  · exact claimFailed_acts s _ _

/-- A new view frame holds no slot yet. -/
theorem newFrame_sound (p : Plan) (d : Descriptor) (z : Sizes) (n : Half) (t : DWord) (b : BankId) :
    (newFrame p d z n t b).SoundIn .claiming :=
  ⟨by decide, Nat.zero_le _, fun _ => ⟨rfl, rfl⟩, fun _ hx => (by cases hx), fun sealing => (by cases sealing)⟩

theorem openFrame_acts (p : Plan) (d : Descriptor) (z : Sizes) (n : Half) (t : DWord) (b : BankId) (k : ViewId) :
    s.Acts (openFrame p d z n t b k s) :=
  (s.setChannel_acts (c := { s.channel k with state := .claiming, frame := some _ }) fun _ => newFrame_sound p d z n t b).trans
    (queueClaim_acts _ _ _)

theorem countSkip_acts (n : Half) (c : OutcomeCause) (k : ViewId) : s.Acts (countSkip n c k s) := by
  have counted := s.setChannel_acts (k := k) (c := { s.channel k with tally := (s.channel k).tally.count n .skipped c }) id
  unfold countSkip
  dsimp only
  split
  · exact counted.trans (.asks _ _)
  · exact counted

theorem overtake_acts (t : DWord) (k : ViewId) : s.Acts (overtake t k s) := by
  unfold overtake
  split
  · exact abandonFrame_acts s _ _ _
  · exact refl s

theorem takeDisposition_acts (p : Plan) (n : Half) (t : DWord) (b : BankId) (k : ViewId) (x : Disposition) :
    s.Acts (takeDisposition p n t b k x s) := by
  unfold takeDisposition
  split
  · exact refl s
  · exact countSkip_acts s _ _ _
  · split
    · split
      · exact openFrame_acts s _ _ _ _ _ _ _
      · exact refl s
    · exact countSkip_acts s _ _ _

theorem metadataNotice_acts (n : Nat) (x : Bool) (k : ViewId) : s.Acts (metadataNotice n x k s) := by
  refine s.withFrame_acts fun v hv => ?_
  split
  · refine (s.setFrame_acts hv fun sound => ?_).trans (advanceActive_acts _ k)
    exact sound.restaged sound.staging rfl rfl rfl
  · exact refl s

/-- A group is finalized only into a free staging place. -/
theorem finalizeGroup_acts (t : DWord) {v w : ViewFrame} (hv : (s.channel k).frame = some v)
    (sound : v.SoundIn (s.channel k).state → w.SoundIn (s.channel k).state) : s.Acts (finalizeGroup t k w s) := by
  unfold finalizeGroup
  dsimp only
  split
  · rename_i free
    have room : w.staging.length < 2 := by simpa [ViewFrame.placeFree, Config.stagingPlaces] using free
    split
    all_goals
      refine (s.setFrame_acts hv fun h => ?_).trans (advanceActive_acts _ k)
      refine (sound h).restaged ?_ rfl rfl rfl
      simp only [ViewFrame.staged, List.length_append, List.length_singleton]
      omega
  · refine (s.setFrame_acts hv fun h => ?_).trans (abandonFrame_acts _ _ _ _)
    exact (sound h).restaged (sound h).staging rfl rfl rfl

theorem ViewFrame.takeRow_keeps (v : ViewFrame) (place : RowPlace) (x : Option (List Byte)) :
    (v.takeRow place x).staging = v.staging ∧ (v.takeRow place x).claimInFlight = v.claimInFlight
      ∧ (v.takeRow place x).slot = v.slot ∧ (v.takeRow place x).firstWrite = v.firstWrite := by
  unfold ViewFrame.takeRow
  split
  · exact ⟨rfl, rfl, rfl, rfl⟩
  · split <;> exact ⟨rfl, rfl, rfl, rfl⟩

theorem rowNotice_acts (t : DWord) (row : Nat) (x : Option (List Byte)) (k : ViewId) : s.Acts (rowNotice t row x k s) := by
  refine s.withFrame_acts fun v hv => ?_
  split
  · split
    · exact refl s
    · rename_i place _
      obtain ⟨staging, claim, slot, first⟩ := v.takeRow_keeps place x
      have taken (h : v.SoundIn (s.channel k).state) : (v.takeRow place x).SoundIn (s.channel k).state :=
        h.restaged (by rw [staging]; exact h.staging) claim slot first
      have set := s.setFrame_acts hv taken
      dsimp only
      split
      · exact set.trans (abandonFrame_acts _ _ _ _)
      · split
        · exact set.trans (finalizeGroup_acts _ t (by simp) id)
        · exact set
  · exact refl s

theorem truncationNotice_acts (c : OutcomeCause) (t : DWord) (k : ViewId) : s.Acts (truncationNotice c t k s) := by
  refine s.withFrame_acts fun v hv => ?_
  split
  · exact abandonFrame_acts s _ _ _
  · exact refl s

theorem abortChannel_acts (t : DWord) (k : ViewId) : s.Acts (abortChannel t k s) := by
  unfold abortChannel
  split
  · exact abandonFrame_acts s _ _ _
  · exact refl s

theorem cancelCopy_acts (b : BankId) (k : ViewId) : s.Acts (cancelCopy b k s) := by
  refine s.withFrame_acts fun v hv => ?_
  split
  · refine (s.setFrame_acts hv fun sound => ?_).trans (State.withdraw_acts _ _)
    exact sound.restaged sound.staging rfl rfl rfl
  · exact refl s

theorem State.askFrameRecord_acts (k : ViewId) (bytes : List Byte) : s.Acts (s.askFrameRecord k bytes) :=
  (s.withdraw_acts _).trans (.asks _ _)

/-- A channel enters SEALING only with its first write exchanged. -/
theorem enterSealing_acts (k : ViewId) : s.Acts (enterSealing k s) := by
  refine s.withFrame_acts fun v hv => ?_
  split
  · rename_i ready
    obtain ⟨w, hw, -, exchanged, -⟩ := (s.readyToSeal_iff k).mp ready
    obtain rfl : v = w := by simpa [hv] using hw
    exact (s.moveChannel_acts hv fun sound => sound.remade (by decide) sound.staging rfl rfl rfl fun _ => exchanged).trans
      (State.askFrameRecord_acts _ _ _)
  · exact refl s

/-! ### Entry to FAULT and the resets -/

theorem map8_getElem {α β : Type} (f : α → β) (v : Vector α 8) (k : ViewId) : (map8 f v)[k] = f v[k] := by
  simp [map8_eq]

theorem State.enterFault_acts : s.Acts s.enterFault := by
  refine .leaves (fun _ k => ?_) rfl (List.Sublist.refl _) (List.Sublist.refl _) (List.nil_sublist _)
  have entered : s.enterFault.channel k = (s.channel k).enterFault := map8_getElem _ _ k
  rw [entered]
  rfl

theorem State.resetTo_acts (anchor : DWord) (enables : BitVec 14) (timebase : DWord) :
    s.Acts (s.resetTo anchor enables timebase) := by
  refine .leaves (fun _ k => ?_) rfl (List.nil_sublist _) (List.nil_sublist _) (List.nil_sublist _)
  have fresh : (s.resetTo anchor enables timebase).channel k = Channel.initial := by
    simp [State.channel, State.resetTo, State.reset]
  rw [fresh]
  rfl

/-! ### Answers to a channel -/

theorem ViewFrame.SoundIn.filling {a : ChannelState} {v : ViewFrame} (h : v.SoundIn a) (issued : v.firstWrite = .outstanding) :
    v.filling.SoundIn a where
  opened := h.opened
  staging := h.staging
  claim := fun flying => absurd (h.claim flying).2 (by simp [issued])
  word := fun x hx => by
    obtain ⟨y, -, rfl⟩ := Option.map_eq_some_iff.mp hx
    simp [Slot.become, ViewFrame.filling]
  sealing := fun _ => rfl

theorem firstWriteAnswered_acts (x : CasAnswer) (k : ViewId) : s.Acts (firstWriteAnswered x k s) := by
  unfold firstWriteAnswered
  split
  · exact s.enterFault_acts
  · refine s.withFrame_acts fun v hv => ?_
    split
    · exact refl s
    · rename_i issued
      have outstanding : v.firstWrite = .outstanding := by simpa using issued
      split
      · refine (s.setFrame_acts hv fun sound => ?_).trans (.asks _ _)
        exact (sound.filling outstanding).restaged sound.staging rfl rfl rfl
      · exact s.setFrame_acts hv fun sound => sound.filling outstanding
  · refine s.withFrame_acts fun v hv => ?_
    split
    · exact refl s
    · refine (s.moveChannel_acts hv fun sound => ?_).trans (loseSlot_acts _ k)
      exact sound.slotless (by decide) (Nat.zero_le _) rfl rfl rfl (by simp)

/-- The slot of a view frame given up. -/
theorem State.dropSlot_acts {v : ViewFrame} (hv : (s.channel k).frame = some v) : s.Acts (s.setFrame k { v with slot := none }) :=
  s.setFrame_acts hv fun sound => sound.slotless sound.opened sound.staging rfl rfl rfl sound.sealing

theorem returnAnswered_acts (x : CasAnswer) (k : ViewId) : s.Acts (returnAnswered x k s) := by
  unfold returnAnswered
  split
  · exact s.enterFault_acts
  · exact s.withFrame_acts fun v hv => (s.dropSlot_acts hv).trans (closeFrame_acts _ _ _)
  · exact s.withFrame_acts fun v hv => (s.dropSlot_acts hv).trans (loseSlot_acts _ k)

/-- A SEALING channel's slot reads FILLING, and becomes FILLED or TORN. -/
theorem frameRecordAnswered_acts (x : WriteAnswer) (k : ViewId) : s.Acts (frameRecordAnswered x k s) := by
  unfold frameRecordAnswered
  split
  · exact s.enterFault_acts
  · refine s.withFrame_acts fun v hv => ?_
    split
    · rename_i slot hslot
      split
      · rename_i sealing
        refine s.exchangeSlot_acts hv fun sound tag address => ⟨?_, ?_⟩
        · simpa [sound.sealing sealing] using sound.word slot hslot
        · rw [slotState_withSlotState]
          split
          · exact .inr rfl
          · exact .inl rfl
      · exact refl s
    · exact refl s

theorem raiseSealed_acts (v : ViewFrame) : s.Acts (raiseSealed v s) := by
  unfold raiseSealed
  split
  · exact s.raise_acts _
  · split
    · exact s.raise_acts _
    · exact refl s

theorem channel_raiseSealed (v : ViewFrame) (j : ViewId) : (raiseSealed v s).channel j = s.channel j := by
  unfold raiseSealed
  split
  · simp
  · split <;> simp

theorem sealingAnswered_acts (x : CasAnswer) (k : ViewId) : s.Acts (sealingAnswered x k s) := by
  unfold sealingAnswered
  split
  · exact s.enterFault_acts
  · refine s.withFrame_acts fun v hv => ((raiseSealed_acts s v).trans (State.dropSlot_acts _ ?_)).trans (closeFrame_acts _ _ _)
    rw [channel_raiseSealed, hv]
  · exact s.withFrame_acts fun v hv => (s.dropSlot_acts hv).trans (loseSlot_acts _ k)

theorem viewTallyAnswered_acts (x : WriteAnswer) (k : ViewId) (closing : Bool) : s.Acts (viewTallyAnswered x k closing s) := by
  unfold viewTallyAnswered
  split
  · exact s.enterFault_acts
  · split
    · exact s.setChannel_acts fun _ => rfl
    · exact refl s

theorem freePlaces_length (number index : Nat) (t : TransactionState) (staging : List CellRow) :
    (freePlaces (markTransaction number index t staging)).length ≤ staging.length :=
  (List.length_filter_le _ _).trans (List.length_map _).le

theorem rowAnswered_acts (x : WriteAnswer) (k : ViewId) (number index : Nat) : s.Acts (rowAnswered x k number index s) := by
  refine s.withFrame_acts fun v hv => ?_
  split
  · exact s.setFrame_acts hv fun sound => sound.restaged ((freePlaces_length _ _ _ _).trans sound.staging) rfl rfl rfl
  · refine (s.setFrame_acts hv fun sound => ?_).trans (abandonFrame_acts _ _ _ _)
    exact sound.restaged ((freePlaces_length _ _ _ _).trans sound.staging) rfl rfl rfl

theorem copyAnswered_acts (x : WriteAnswer) (k : ViewId) (number : Half) : s.Acts (copyAnswered x k number s) := by
  refine s.withFrame_acts fun v hv => ?_
  split
  · exact refl s
  · split
    · exact s.setFrame_acts hv fun sound => sound.restaged sound.staging rfl rfl rfl
    · refine (s.setFrame_acts hv fun sound => ?_).trans (abandonFrame_acts _ _ _ _)
      exact sound.restaged sound.staging rfl rfl rfl

/-! ### Scanners -/

theorem visitSlot_acts (p : PoolId) (x : ClaimService) : s.Acts (visitSlot p x s) :=
  (s.setScanner_acts _ _).trans (State.issue_read_acts _ _ _ _)

theorem startService_acts (p : PoolId) : s.Acts (startService p s) := by
  unfold startService
  split
  · exact refl s
  · split
    · exact (s.setScanner_acts _ _).trans (visitSlot_acts _ _ _)
    · exact refl s

theorem passSlot_acts (p : PoolId) (d : PoolDefinition) (x : ClaimService) : s.Acts (passSlot p d x s) := by
  unfold passSlot
  split
  · exact visitSlot_acts s _ _
  · exact (s.setScanner_acts _ _).trans (claimFailed_acts _ _ _)

theorem faultPool_acts (p : PoolId) : s.Acts (faultPool p s) := by
  refine ((s.setScanner_acts _ _).trans (State.raise_acts _ _)).trans (State.eachView_acts _ fun k t => ?_)
  split
  · exact claimFailed_acts t _ _
  · exact refl t

/-- A scanner's compare-exchange is on the OFFERED word it read. -/
theorem scannerExchange_acts {p : PoolId} {role : PortRole} {next : SlotState} {r : BitVec 128} (x : ClaimService)
    (offered : slotState (recordWord r) = .offered)
    (named : role = .claim p ∧ next = .taken ∨ role = .refusal p ∧ next = .refused) :
    s.Acts (scannerExchange p role x r next s) := by
  refine (s.setScanner_acts _ _).trans (.issues _ _ _ fun _ tag => ?_)
  rcases named with ⟨rfl, rfl⟩ | ⟨rfl, rfl⟩ <;> exact ⟨offered, slotState_freshSlotWord _ _ _⟩

theorem State.withService_acts {p : PoolId} {f : PoolDefinition → ClaimService → State} (h : ∀ d x, s.Acts (f d x)) :
    s.Acts (s.withService p f) := by
  unfold State.withService
  split
  · exact h _ _
  · exact refl s

theorem slotReadAnswered_acts (x : ReadAnswer 128) (p : PoolId) : s.Acts (slotReadAnswered x p s) := by
  unfold slotReadAnswered
  split
  · exact faultPool_acts s p
  · refine s.withService_acts fun d service => ?_
    split
    · exact passSlot_acts s _ _ _
    · rename_i offered
      split
      · exact scannerExchange_acts s _ (by simpa using offered) (.inl ⟨rfl, rfl⟩)
      · exact scannerExchange_acts s _ (by simpa using offered) (.inr ⟨rfl, rfl⟩)

theorem claimAnswered_acts (x : CasAnswer) (p : PoolId) : s.Acts (claimAnswered x p s) := by
  unfold claimAnswered
  split
  · exact faultPool_acts s p
  · exact s.withService_acts fun d service => passSlot_acts s _ _ _
  · refine s.withService_acts fun d service => ?_
    split
    · exact refl s
    · exact (s.setScanner_acts _ _).trans (claimSucceeded_acts _ _ (slotState_freshSlotWord _ _ _))

theorem refusalAnswered_acts (x : CasAnswer) (p : PoolId) : s.Acts (refusalAnswered x p s) := by
  unfold refusalAnswered
  split
  · exact faultPool_acts s p
  · exact s.withService_acts fun d service => passSlot_acts s _ _ _
  · exact s.withService_acts fun d service => (s.raise_acts _).trans (passSlot_acts _ _ _ _)

/-! ### The plan unit -/

theorem discardCandidate_acts : s.Acts (discardCandidate s) := by
  unfold discardCandidate
  split
  · exact refl s
  · exact (s.setPlan_acts _).trans (.asks _ _)

theorem reportRejection_acts (q : Word) (r : Reason) (v : Byte) : s.Acts (reportRejection q r v s) :=
  ((s.setPlan_acts _).trans (.asks _ _)).trans (State.raise_acts _ _)

theorem quietFetch_acts : s.Acts s.quietFetch := s.setPlan_acts _

theorem adoptPlan_acts (p : Plan) (n : Word) : s.Acts (adoptPlan p n s) := by
  refine .trans (.trans ?_ (.asks _ .adoptionWord)) (State.raise_acts _ .planAdopted)
  exact of_eq rfl rfl rfl

theorem adoptFirst_acts (p : Plan) : s.Acts (adoptFirst p s) := (adoptPlan_acts s p _).trans (of_eq rfl rfl rfl)

theorem failStart_acts (q : Word) (r : Reason) (v : Byte) : s.Acts (failStart q r v s) :=
  (reportRejection_acts s q r v).trans (of_eq rfl rfl rfl)

theorem readSelector_acts (r : PortRole) : s.Acts (readSelector r s) := (s.setPlan_acts _).trans (State.issue_read_acts _ _ _ _)

theorem readPage_acts (r : PortRole) (x : Selector) : s.Acts (readPage r x s) :=
  (s.setPlan_acts _).trans (State.issue_read_acts _ _ _ _)

theorem startSelectorAnswered_acts (x : ReadAnswer 64) : s.Acts (startSelectorAnswered x s) := by
  unfold startSelectorAnswered
  split
  · exact quietFetch_acts s
  · split
    · exact s.enterFault_acts
    · split
      · exact readPage_acts s _ _
      · exact failStart_acts s _ _ _

theorem startPageAnswered_acts (x : ReadAnswer 8192) : s.Acts (startPageAnswered x s) := by
  unfold startPageAnswered
  split
  · exact quietFetch_acts s
  · split
    · exact adoptFirst_acts s _
    · exact failStart_acts s _ _ _

theorem frameEndFetch_acts : s.Acts (frameEndFetch s) := by
  unfold frameEndFetch
  split
  · exact readSelector_acts s _
  · exact refl s

theorem selectorAnswered_acts (x : ReadAnswer 64) : s.Acts (selectorAnswered x s) := by
  have quiet := quietFetch_acts s
  unfold selectorAnswered
  split
  · exact quiet
  · split
    · exact quiet.trans (reportRejection_acts _ _ _ _)
    · unfold takeSelector
      split
      · exact quiet.trans (discardCandidate_acts _)
      · split
        · exact quiet
        · split
          · exact quiet.trans (discardCandidate_acts _)
          · split
            · exact readPage_acts s _ _
            · exact (quiet.trans (discardCandidate_acts _)).trans (reportRejection_acts _ _ _ _)

theorem pageAnswered_acts (x : ReadAnswer 8192) : s.Acts (pageAnswered x s) := by
  have quiet := quietFetch_acts s
  unfold pageAnswered
  split
  · exact quiet
  · split
    · exact (quiet.trans (discardCandidate_acts _)).trans (State.setPlan_acts _ _)
    · refine (quiet.trans ?_).trans (reportRejection_acts _ _ _ _)
      split
      · exact discardCandidate_acts _
      · exact refl _

theorem planFrameStart_acts (n : Half) : s.Acts (planFrameStart n s) := by
  unfold planFrameStart
  split
  · exact refl s
  · split
    · exact refl s
    · split
      · exact adoptPlan_acts s _ _
      · exact ((s.setPlan_acts _).trans (.asks _ _)).trans (State.raise_acts _ _)

theorem adoptionWordAnswered_acts (x : WriteAnswer) : s.Acts (adoptionWordAnswered x s) := by
  unfold adoptionWordAnswered
  split
  · exact s.enterFault_acts
  · split
    · exact refl s
    · split
      · exact .leaves id rfl (List.Sublist.refl _) (List.Sublist.refl _) (List.Sublist.refl _)
      · exact of_eq rfl rfl rfl
      all_goals exact refl s

theorem linkTallyAnswered_acts (x : WriteAnswer) : s.Acts (linkTallyAnswered x s) := by
  cases x with
  | ok => exact refl s
  | error => exact s.enterFault_acts

/-! ### The arbiter -/

theorem admitCopy_acts (k : ViewId) (free : s.queue.entries.length < 32) : s.Acts (admitCopy k s) := by
  refine s.withFrame_acts fun v hv => ?_
  split
  · refine (s.setFrame_acts hv fun sound => ?_).trans (.admits _ _ _ _ free)
    exact sound.restaged sound.staging rfl rfl rfl
  · exact refl s

theorem admitRecord_acts (k : ViewId) (bytes : List Byte) (free : s.queue.entries.length < 32) :
    s.Acts (admitRecord k bytes s) := by
  refine s.withFrame_acts fun v hv => ?_
  split
  · exact .admits s _ _ _ free
  · exact refl s

theorem admitRequest_acts (r : Request) (free : s.queue.entries.length < 32) : s.Acts (admitRequest r s) := by
  cases r with
  | metadataCopy k => exact admitCopy_acts s k free
  | frameRecord k bytes => exact admitRecord_acts s k bytes free
  | viewTally | linkTally | adoptionWord => exact .admits s _ _ _ free

theorem admitRow_acts (k : ViewId) (free : s.queue.entries.length < 32) : s.Acts (admitRow k s) := by
  refine s.withFrame_acts fun v hv => ?_
  split
  · rename_i slot row i _ _
    have marked := s.setFrame_acts (w := { v with staging := markTransaction row.number i .outstanding v.staging }) hv fun sound =>
      sound.restaged ((List.length_map _).le.trans sound.staging) rfl rfl rfl
    exact (marked.trans (.admits _ _ _ _ free)).trans
      (.leaves id rfl (List.Sublist.refl _) (List.Sublist.refl _) (List.Sublist.refl _))
  · exact refl s

theorem admitOne_acts : s.Acts (admitOne s) := by
  unfold admitOne
  split
  · rename_i entryFree
    have free : s.queue.entries.length < 32 := by
      simp only [State.entryFree, Bool.and_eq_true, decide_eq_true_eq] at entryFree
      exact entryFree.1
    split
    · rename_i r rest queued
      exact (s.requests_acts (by rw [queued]; exact List.sublist_cons_self r rest)).trans (admitRequest_acts _ r free)
    · split
      · exact admitRow_acts s _ free
      · exact refl s
  · exact refl s

/-! ### Answers, each to its owner -/

theorem State.answered_acts {α : Type} {pick : PortRole → Option α} {deliver : α → State → State} (tag : Nat)
    (h : ∀ owner (t : State), t.Acts (deliver owner t)) : s.Acts (s.answered tag pick deliver) :=
  s.answered_induct s.Acts (refl s) (s.dropPort_acts tag) fun owner _ => (s.dropPort_acts tag).trans (h owner _)

theorem State.responded_acts {α : Type} {pick : WriteRole → Option α} {deliver : α → State → State} (tag : Nat)
    (h : ∀ owner (t : State), t.Acts (deliver owner t)) : s.Acts (s.responded tag pick deliver) :=
  s.responded_induct s.Acts (refl s) (s.dropWrite_acts tag) fun owner _ => (s.dropWrite_acts tag).trans (h owner _)

theorem takeSlotRead_acts (tag : Nat) (x : ReadAnswer 128) : s.Acts (takeSlotRead tag x s) :=
  s.answered_acts tag fun p t => slotReadAnswered_acts t x p

theorem takeClaim_acts (tag : Nat) (x : CasAnswer) : s.Acts (takeClaim tag x s) :=
  s.answered_acts tag fun p t => claimAnswered_acts t x p

theorem takeRefusal_acts (tag : Nat) (x : CasAnswer) : s.Acts (takeRefusal tag x s) :=
  s.answered_acts tag fun p t => refusalAnswered_acts t x p

theorem takeFirstWrite_acts (tag : Nat) (x : CasAnswer) : s.Acts (takeFirstWrite tag x s) :=
  s.answered_acts tag fun k t => firstWriteAnswered_acts t x k

theorem takeReturn_acts (tag : Nat) (x : CasAnswer) : s.Acts (takeReturn tag x s) :=
  s.answered_acts tag fun k t => returnAnswered_acts t x k

theorem takeSealing_acts (tag : Nat) (x : CasAnswer) : s.Acts (takeSealing tag x s) :=
  s.answered_acts tag fun k t => sealingAnswered_acts t x k

theorem takeRowWrite_acts (tag : Nat) (x : WriteAnswer) : s.Acts (takeRowWrite tag x s) :=
  s.responded_acts tag fun r t => rowAnswered_acts t x r.1 r.2.1 r.2.2

theorem takeMetadataCopy_acts (tag : Nat) (x : WriteAnswer) : s.Acts (takeMetadataCopy tag x s) :=
  s.responded_acts tag fun r t => copyAnswered_acts t x r.1 r.2

theorem takeFrameRecord_acts (tag : Nat) (x : WriteAnswer) : s.Acts (takeFrameRecord tag x s) :=
  s.responded_acts tag fun k t => frameRecordAnswered_acts t x k

theorem takeViewTally_acts (tag : Nat) (x : WriteAnswer) : s.Acts (takeViewTally tag x s) :=
  s.responded_acts tag fun r t => viewTallyAnswered_acts t x r.1 r.2

theorem takeLinkTally_acts (tag : Nat) (x : WriteAnswer) : s.Acts (takeLinkTally tag x s) :=
  s.responded_acts tag fun _ t => linkTallyAnswered_acts t x

theorem takeAdoptionWord_acts (tag : Nat) (x : WriteAnswer) : s.Acts (takeAdoptionWord tag x s) :=
  s.responded_acts tag fun _ t => adoptionWordAnswered_acts t x

theorem performStep_acts (x : MemoryStep) : s.Acts (performStep x s) := by
  cases x with
  | admission => exact admitOne_acts s
  | rowWriteResponse tag answer => exact takeRowWrite_acts s tag answer
  | metadataCopyResponse tag answer => exact takeMetadataCopy_acts s tag answer
  | frameRecordResponse tag => exact takeFrameRecord_acts s tag _
  | viewTallyResponse tag => exact takeViewTally_acts s tag _
  | linkTallyResponse tag => exact takeLinkTally_acts s tag _
  | adoptionWordResponse tag => exact takeAdoptionWord_acts s tag _
  | claimServiceStart p => exact startService_acts s p
  | slotReadAnswer tag answer => exact takeSlotRead_acts s tag answer
  | claimAnswer tag answer => exact takeClaim_acts s tag answer
  | refusalAnswer tag answer => exact takeRefusal_acts s tag answer
  | firstWriteAnswer tag exchanged => exact takeFirstWrite_acts s tag _
  | returnAnswer tag exchanged => exact takeReturn_acts s tag _
  | sealingAnswer tag exchanged => exact takeSealing_acts s tag _
  | sealingEntry k => exact enterSealing_acts s k

theorem takeMemoryStep_acts (x : MemoryStep) : s.Acts (takeMemoryStep x s) := by
  unfold takeMemoryStep
  split
  · exact refl s
  · exact performStep_acts s x

/-! ### The frame tracker -/

theorem restartDeadline_acts : s.Acts (restartDeadline s) := by
  unfold restartDeadline
  split
  · exact s.setTracker_acts _
  · exact refl s

theorem closeMetadata_acts : s.Acts (closeMetadata s) := by
  unfold closeMetadata
  split
  · exact s.eachView_acts fun k t => metadataNotice_acts t _ _ k
  · exact refl s

theorem announceEnd_acts : s.Acts (announceEnd s) := (State.Acts.asks _ _).trans (frameEndFetch_acts _)

theorem resolveRow_acts (between : List NoticeStep) (x : Option (List Byte)) (row : Nat) : s.Acts (resolveRow between x row s) :=
  (State.foldl_acts (fun t (a : NoticeStep) => takeMemoryStep_acts t a.step) _ s).trans
    (State.eachView_acts _ fun k t => rowNotice_acts t _ _ _ k)

theorem resolveMissing_acts (between : List NoticeStep) (first count : Nat) : s.Acts (resolveMissing between first count s) :=
  State.foldl_acts (fun t row => resolveRow_acts t between none row) _ s

theorem takeMetaRow_acts (x : List Byte) : s.Acts (takeMetaRow x s) := by
  unfold takeMetaRow
  split
  · exact s.setTracker_acts _
  · exact (s.setTracker_acts _).trans (restartDeadline_acts _)
  · split <;> exact (s.setTracker_acts _).trans (restartDeadline_acts _)

theorem takePixelRow_acts (between : List NoticeStep) (row : Nat) (x : List Byte) : s.Acts (takePixelRow between row x s) := by
  unfold takePixelRow
  split
  · exact s.setTracker_acts _
  · have opened : s.Acts (restartDeadline ((closeMetadata s).setTracker { (closeMetadata s).tracker with state := .body })) :=
      ((closeMetadata_acts s).trans (State.setTracker_acts _ _)).trans (restartDeadline_acts _)
    dsimp only
    split
    · exact opened.trans (State.setTracker_acts _ _)
    · exact ((opened.trans (resolveMissing_acts _ _ _ _)).trans (resolveRow_acts _ _ _ _)).trans (State.setTracker_acts _ _)

theorem takeFrameEnd_acts (between : List NoticeStep) (n : Half) : s.Acts (takeFrameEnd between n s) := by
  unfold takeFrameEnd
  split
  · exact s.setTracker_acts _
  · exact (((closeMetadata_acts s).trans (resolveMissing_acts _ _ _ _)).trans (State.setTracker_acts _ _)).trans
      (announceEnd_acts _)

theorem truncateFrame_acts (c : OutcomeCause) : s.Acts (truncateFrame c s) := by
  unfold truncateFrame
  split
  · exact refl s
  · exact (((closeMetadata_acts s).trans (State.setTracker_acts _ _)).trans
      (State.eachView_acts _ fun k t => truncationNotice_acts t _ _ k)).trans (announceEnd_acts _)

theorem raiseMismatch_acts (gap : Bool) : s.Acts (raiseMismatch gap s) := by
  unfold raiseMismatch
  split
  · split
    · exact s.raise_acts _
    · exact refl s
  · exact refl s

theorem frameStartNotice_acts (gap : Bool) (k : ViewId) : s.Acts (frameStartNotice gap k s) := by
  unfold frameStartNotice
  dsimp only
  split
  · exact (overtake_acts s _ k).trans (takeDisposition_acts _ _ _ _ _ _ _)
  · exact overtake_acts s _ k

theorem takeFrameStart_acts (n w h : Half) (d : Byte) : s.Acts (takeFrameStart n w h d s) := by
  have begun : s.Acts (beginFrame n w h d (truncateFrame .truncated s)) :=
    ((truncateFrame_acts s _).trans (State.eachView_acts _ fun k t => cancelCopy_acts t _ k)).trans (State.setTracker_acts _ _)
  have planned : s.Acts (armGap (planFrameStart n (beginFrame n w h d (truncateFrame .truncated s)))) :=
    (begun.trans (planFrameStart_acts _ n)).trans (State.setTracker_acts _ _)
  exact (planned.trans (raiseMismatch_acts _ _)).trans (State.eachView_acts _ fun k t => frameStartNotice_acts t _ k)

theorem passPacket_acts (between : List NoticeStep) (h : BitVec 64) (x : List Byte) : s.Acts (passPacket between h x s) := by
  unfold passPacket
  split
  · exact takeFrameStart_acts s _ _ _ _
  · exact takeMetaRow_acts s _
  · exact takePixelRow_acts s _ _ _
  · exact takeFrameEnd_acts s _ _
  · exact refl s
  · exact refl s

theorem expireGap_acts : s.Acts (expireGap s) := by
  unfold expireGap
  split
  · split
    · refine .trans ?_ (truncateFrame_acts _ _)
      exact of_eq rfl rfl rfl
    · exact refl s
  · exact refl s

/-! ### The link receiver -/

theorem State.receive_acts (runs : LaneRuns) : s.Acts (s.receive runs) := s.setReceiver_acts _

theorem loseLock_acts : s.Acts (loseLock s) :=
  ((s.setReceiver_acts _).trans (State.raise_acts _ _)).trans (truncateFrame_acts _ _)

theorem endVerify_acts : s.Acts (endVerify s) := by
  unfold endVerify
  split
  · exact (s.setReceiver_acts _).trans (State.raise_acts _ _)
  · exact refl s

theorem takeLockedBoundary_acts : s.Acts (takeLockedBoundary s) := by
  unfold takeLockedBoundary
  split
  · split
    · exact s.setReceiver_acts _
    · exact loseLock_acts s
  · exact refl s

theorem judgeLocked_acts (h : BitVec 64) : s.Acts (judgeLocked h s) := by
  unfold judgeLocked
  split
  · unfold takeGoodHeader
    split <;> exact s.setReceiver_acts _
  · unfold takeBadHeader
    dsimp only
    split
    · exact (s.setReceiver_acts _).trans (loseLock_acts _)
    · split <;> exact s.setReceiver_acts _

theorem takeLockedHeader_acts : s.Acts (takeLockedHeader s) := by
  unfold takeLockedHeader
  split
  · split
    · exact (s.setReceiver_acts _).trans (judgeLocked_acts _ _)
    · exact refl s
  · exact refl s

theorem takePacket_acts (between : List NoticeStep) : s.Acts (takePacket between s) := by
  unfold takePacket
  split
  · exact refl s
  · split
    · split
      · unfold completePacket
        split
        · exact (s.setReceiver_acts _).trans (passPacket_acts _ _ _ _)
        · exact s.setReceiver_acts _
      · exact refl s
    · exact refl s

/-! ### The run controller -/

theorem takeStart_acts : s.Acts (takeStart s) := by
  unfold takeStart
  split
  · exact of_eq rfl rfl rfl
  · split
    · exact of_eq rfl rfl rfl
    · exact (((s.record_acts _).trans (State.setRunState_acts _ _)).trans (State.setProgress_acts _ _)).trans
        (State.issue_read_acts _ _ _ _)

theorem markDiscard_acts : s.Acts (markDiscard s) := by
  unfold markDiscard
  split
  · exact refl s
  · exact s.setPlan_acts _

theorem takeStop_acts : s.Acts (takeStop s) := by
  unfold takeStop
  split
  · exact ((s.record_acts _).trans (State.setRunState_acts _ _)).trans (markDiscard_acts _)
  · exact of_eq rfl rfl rfl

theorem abortBlocks_acts : s.Acts (abortBlocks s) :=
  (s.eachView_acts fun k t => abortChannel_acts t _ k).trans (truncateFrame_acts _ _)

theorem takeAbort_acts : s.Acts (takeAbort s) := by
  have accepted : s.Acts (markDiscard (((s.record .accepted).setRunState .aborting).setProgress .none)) :=
    (((s.record_acts _).trans (State.setRunState_acts _ _)).trans (State.setProgress_acts _ _)).trans (markDiscard_acts _)
  unfold takeAbort
  dsimp only
  split
  · exact accepted
  · exact accepted.trans (abortBlocks_acts _)
  · exact accepted.trans (abortBlocks_acts _)
  all_goals exact of_eq rfl rfl rfl

theorem takeClearFault_acts : s.Acts (takeClearFault s) := by
  unfold takeClearFault
  split
  · exact of_eq rfl rfl rfl
  · split <;> exact of_eq rfl rfl rfl

theorem writeRun_acts (code : Word) : s.Acts (writeRun code s) := by
  unfold writeRun
  split
  · exact takeStart_acts s
  · split
    · exact takeStop_acts s
    · split
      · exact takeAbort_acts s
      · split
        · exact takeClearFault_acts s
        · split
          · exact s.resetTo_acts _ _ _
          · exact of_eq rfl rfl rfl

theorem writeRegister_acts (offset : Nat) (value : Word) : s.Acts (writeRegister offset value s) := by
  unfold writeRegister
  split
  · exact writeRun_acts s value
  · split
    · exact of_eq rfl rfl rfl
    · split
      · exact of_eq rfl rfl rfl
      · split
        · unfold writeAnchorLo
          split <;> exact of_eq rfl rfl rfl
        · split
          · unfold writeAnchorHi
            split <;> exact of_eq rfl rfl rfl
          · exact refl s

theorem writeWindow_acts (offset width : Nat) (value : DWord) : s.Acts (writeWindow offset width value s) := by
  unfold writeWindow
  split
  · exact writeRegister_acts s _ _
  · split
    · exact (writeRegister_acts s _ _).trans (writeRegister_acts _ _ _)
    · exact refl s

theorem linkWordAnswered_acts (x : ReadAnswer 32) : s.Acts (linkWordAnswered x s) := by
  unfold linkWordAnswered
  split
  · exact refl s
  · split
    · exact s.enterFault_acts
    · split
      · refine .trans ?_ (State.issue_read_acts _ _ _ _)
        exact of_eq rfl rfl rfl
      · exact failStart_acts s _ _ _

theorem poolTableAnswered_acts (x : ReadAnswer 512) : s.Acts (poolTableAnswered x s) := by
  unfold poolTableAnswered
  split
  · exact refl s
  · split
    · exact s.enterFault_acts
    · split
      · refine .trans ?_ (readSelector_acts _ _)
        exact of_eq rfl rfl rfl
      · exact failStart_acts s _ _ _

theorem reachStopped_acts : s.Acts (reachStopped s) := by
  unfold reachStopped
  split
  · exact of_eq rfl rfl rfl
  · exact refl s

/-! ### Commands and steps -/

/-- Every command is made of these acts. -/
theorem exec_acts (c : Instr) : ∃ t, exec c s = .next t ∧ s.Acts t := by
  cases c with
  | start | stop | abort | clearFault | reset | unknownCode => exact ⟨_, rfl, writeRun_acts s _⟩
  | attention | attentionEnable | anchorLo | anchorHi => exact ⟨_, rfl, writeRegister_acts s _ _⟩
  | ignoredRegisterWrite offset width value => exact ⟨_, rfl, writeWindow_acts s _ _ _⟩
  | powerOnReset | portReset => exact ⟨_, rfl, s.resetTo_acts _ _ _⟩
  | alignmentWordMatch | verifyHeader | verifyBoundary | boundarySearch =>
    exact ⟨_, rfl, (s.receive_acts _).trans (State.setReceiver_acts _ _)⟩
  | verifyExtentEnd => exact ⟨_, rfl, endVerify_acts s⟩
  | lockedBoundary runs => exact ⟨_, rfl, (s.receive_acts runs).trans (takeLockedBoundary_acts _)⟩
  | lockedHeader runs => exact ⟨_, rfl, (s.receive_acts runs).trans (takeLockedHeader_acts _)⟩
  | packetComplete last => exact ⟨_, rfl, (s.receive_acts last.runs).trans (takePacket_acts _ _)⟩
  | gapTimeout => exact ⟨_, rfl, expireGap_acts s⟩
  | linkWordAnswer tag x => exact ⟨_, rfl, s.answered_acts tag fun _ t => linkWordAnswered_acts t x⟩
  | poolTableAnswer tag x => exact ⟨_, rfl, s.answered_acts tag fun _ t => poolTableAnswered_acts t x⟩
  | startSelectorAnswer tag x => exact ⟨_, rfl, s.answered_acts tag fun _ t => startSelectorAnswered_acts t x⟩
  | startPageAnswer tag x => exact ⟨_, rfl, s.answered_acts tag fun _ t => startPageAnswered_acts t x⟩
  | selectorAnswer tag x => exact ⟨_, rfl, s.answered_acts tag fun _ t => selectorAnswered_acts t x⟩
  | pageAnswer tag x => exact ⟨_, rfl, s.answered_acts tag fun _ t => pageAnswered_acts t x⟩
  | adoptionWordResponse tag x => exact ⟨_, rfl, takeAdoptionWord_acts s tag x⟩
  | linkTallyResponse tag x => exact ⟨_, rfl, takeLinkTally_acts s tag x⟩
  | claimServiceStart p => exact ⟨_, rfl, startService_acts s p⟩
  | slotReadAnswer tag x => exact ⟨_, rfl, takeSlotRead_acts s tag x⟩
  | claimAnswer tag x => exact ⟨_, rfl, takeClaim_acts s tag x⟩
  | refusalAnswer tag x => exact ⟨_, rfl, takeRefusal_acts s tag x⟩
  | firstWriteAnswer tag x => exact ⟨_, rfl, takeFirstWrite_acts s tag x⟩
  | returnAnswer tag x => exact ⟨_, rfl, takeReturn_acts s tag x⟩
  | admission => exact ⟨_, rfl, admitOne_acts s⟩
  | rowWriteResponse tag x => exact ⟨_, rfl, takeRowWrite_acts s tag x⟩
  | metadataCopyResponse tag x => exact ⟨_, rfl, takeMetadataCopy_acts s tag x⟩
  | sealingEntry k => exact ⟨_, rfl, enterSealing_acts s k⟩
  | frameRecordResponse tag x => exact ⟨_, rfl, takeFrameRecord_acts s tag x⟩
  | sealingAnswer tag x => exact ⟨_, rfl, takeSealing_acts s tag x⟩
  | viewTallyResponse tag x => exact ⟨_, rfl, takeViewTally_acts s tag x⟩
  | runStopped => exact ⟨_, rfl, reachStopped_acts s⟩

/-- A step is a command on the state with its queue's rest, or posts the part's own step, or lets a microsecond pass. -/
theorem step_cases {s t : State} (h : step s = .next t) :
    (∃ c rest, s.pending = c :: rest ∧ exec c { s with pending := rest } = .next t)
      ∨ (∃ c, t = { s with pending := [c] }) ∨ t = { s with timebase := s.timebase + 1 } := by
  unfold step at h
  split at h
  · cases h
    unfold State.idle
    split
    · exact .inr (.inl ⟨_, rfl⟩)
    · exact .inr (.inr rfl)
  · exact .inl ⟨_, _, ‹_›, h⟩

theorem step_acts {s t : State} (h : step s = .next t) : s.Acts t := by
  rcases step_cases h with ⟨c, rest, -, run⟩ | ⟨c, rfl⟩ | rfl
  · obtain ⟨u, next, acts⟩ := exec_acts { s with pending := rest } c
    obtain rfl : u = t := by simpa [next] using run
    exact .trans (of_eq rfl rfl rfl : s.Acts { s with pending := rest }) acts
  · exact of_eq rfl rfl rfl
  · exact of_eq rfl rfl rfl

end Sys2Proof.Machine
end

section
/-! The promises on channels, requests, writes and tags, each kept by every act (02 R25, 06 R98, 09 R148, R151, R152; log 2, log 20). -/

namespace Sys2Proof.Machine

variable {s t : State}

/-! ### Channels and transitions -/

/-- The promise of `ChannelsKeepPromises`, channel by channel and transaction by transaction. -/
structure State.ChannelsSound (s : State) : Prop where
  channels : ∀ k, (s.channel k).Sound
  transitions : ∀ e ∈ s.port.entries, e.isTransition

theorem State.channelsSound_iff : s.ChannelsSound ↔ s.framesMatch ∧ s.stagingBounded ∧ s.sixTransitions := by
  constructor
  · rintro ⟨channels, transitions⟩
    obtain ⟨frames, staging, slots⟩ := s.channels_sound_iff.mp channels
    exact ⟨frames, staging, transitions, slots⟩
  · rintro ⟨frames, staging, transitions, slots⟩
    exact ⟨s.channels_sound_iff.mpr ⟨frames, staging, slots⟩, transitions⟩

theorem State.Acts.channelsSound (acts : s.Acts t) (h : s.ChannelsSound) : t.ChannelsSound := by
  induction acts with
  | leaves channels _ reads _ _ => exact ⟨channels h.channels, fun e he => h.transitions e (reads.subset he)⟩
  | issues s role access transition =>
    refine ⟨fun k => by simpa using h.channels k, fun e he => ?_⟩
    rcases s.mem_issue he with old | ⟨-, rfl, rfl⟩
    · exact h.transitions e old
    · exact transition h.channels e.tag
  | admits s role address data free => exact ⟨fun k => by simpa using h.channels k, h.transitions⟩
  | asks s r => exact ⟨fun k => by simpa using h.channels k, by simpa using h.transitions⟩
  | trans _ _ first second => exact second (first h)

/-! ### Writes outstanding -/

theorem State.Acts.queueBounded (acts : s.Acts t) (h : s.queueBounded) : t.queueBounded := by
  induction acts with
  | leaves _ _ _ writes _ => exact writes.length_le.trans h
  | issues s role access _ => simpa [State.queueBounded] using h
  | admits s role address data free => simpa [State.queueBounded, State.enqueue] using free
  | asks s r => simpa [State.queueBounded] using h
  | trans _ _ first second => exact second (first h)

/-! ### Requests waiting -/

theorem Request.same_comm (a b : Request) : a.same b = b.same a := by
  cases a <;> cases b <;> simp [Request.same, eq_comm]

theorem State.Acts.requestsDistinct (acts : s.Acts t) (h : s.requestsDistinct) : t.requestsDistinct := by
  induction acts with
  | leaves _ _ _ _ requests => exact h.sublist requests
  | issues s role access _ => simpa [State.requestsDistinct] using h
  | admits s role address data free => simpa [State.requestsDistinct] using h
  | asks s r =>
    unfold State.ask
    split
    · exact h
    · rename_i new
      have apart : ∀ a ∈ s.queue.requests, a.same r = false := by
        simpa [State.waitingFor, Request.same_comm r] using new
      exact List.pairwise_append.mpr ⟨h, List.pairwise_singleton _ _, by simpa using apart⟩
  | trans _ _ first second => exact second (first h)

/-! ### Tags -/

/-- A tag below those issued, used once more: the list of tags with the next one put in. -/
theorem nodup_insert_middle {l r : List Nat} {n : Nat} (h : (l ++ r).Nodup) (new : n ∉ l ++ r) : (l ++ [n] ++ r).Nodup := by
  rw [List.append_assoc]
  exact (List.perm_middle.nodup_iff).mpr (List.nodup_cons.mpr ⟨new, h⟩)

theorem State.tagsFrom_issue {first : Nat} (role : PortRole) (access : PortAccess) (h : s.tagsFrom first) :
    (s.issue role access).tagsFrom first := by
  cases halted : s.halted with
  | true => rwa [s.issue_halted role access halted]
  | false =>
    obtain ⟨start, reads, writes, apart⟩ := h
    have below : s.port.nextTag ∉ s.port.entries.map PortEntry.tag ++ s.queue.entries.map WriteEntry.tag := by
      simp only [List.mem_append, List.mem_map, not_or, not_exists, not_and]
      exact ⟨fun e he => (reads e he).2.ne, fun e he => (writes e he).2.ne⟩
    refine ⟨?_, ?_, ?_, ?_⟩ <;> rw [s.issue_port role access halted]
    · exact Nat.le_succ_of_le start
    · intro e he
      rcases List.mem_append.mp he with old | new
      · exact ⟨(reads e old).1, Nat.lt_succ_of_lt (reads e old).2⟩
      · obtain rfl := List.mem_singleton.mp new
        exact ⟨start, Nat.lt_succ_self _⟩
    · rw [State.issue_queue]
      exact fun e he => ⟨(writes e he).1, Nat.lt_succ_of_lt (writes e he).2⟩
    · rw [State.issue_queue, List.map_append]
      exact nodup_insert_middle apart below

theorem State.tagsFrom_enqueue {first : Nat} (role : WriteRole) (address : DWord) (data : List Byte) (h : s.tagsFrom first) :
    (s.enqueue role address data).tagsFrom first := by
  obtain ⟨start, reads, writes, apart⟩ := h
  have below : s.port.nextTag ∉ s.port.entries.map PortEntry.tag ++ s.queue.entries.map WriteEntry.tag := by
    simp only [List.mem_append, List.mem_map, not_or, not_exists, not_and]
    exact ⟨fun e he => (reads e he).2.ne, fun e he => (writes e he).2.ne⟩
  refine ⟨Nat.le_succ_of_le start, fun e he => ⟨(reads e he).1, Nat.lt_succ_of_lt (reads e he).2⟩, fun e he => ?_, ?_⟩
  · rcases List.mem_append.mp he with old | new
    · exact ⟨(writes e old).1, Nat.lt_succ_of_lt (writes e old).2⟩
    · obtain rfl := List.mem_singleton.mp new
      exact ⟨start, Nat.lt_succ_self _⟩
  · have last := nodup_insert_middle (r := []) (by simpa using apart) (by simpa using below)
    simpa [State.enqueue] using last

theorem State.Acts.tagsFrom {first : Nat} (acts : s.Acts t) (h : s.tagsFrom first) : t.tagsFrom first := by
  induction acts with
  | leaves _ tags reads writes _ =>
    obtain ⟨start, inReads, inWrites, apart⟩ := h
    refine ⟨tags ▸ start, fun e he => tags ▸ inReads e (reads.subset he), fun e he => tags ▸ inWrites e (writes.subset he), ?_⟩
    exact apart.sublist ((reads.map _).append (writes.map _))
  | issues s role access _ => exact State.tagsFrom_issue role access h
  | admits s role address data _ => exact State.tagsFrom_enqueue role address data h
  | asks s r => simpa [State.tagsFrom] using h
  | trans _ _ first second => exact second (first h)

/-- A reset forgets every transaction and keeps the tag count (log 20). -/
theorem State.resetTo_tagsFrom (anchor : DWord) (enables : BitVec 14) (timebase : DWord) :
    (s.resetTo anchor enables timebase).tagsFrom s.port.nextTag :=
  ⟨Nat.le_refl _, by simp [State.resetTo], by simp [State.resetTo, State.reset, WriteQueue.initial], List.nodup_nil⟩

end Sys2Proof.Machine

namespace Sys2Proof

open Sys2Proof.Machine

/-- Settles O58: the three promises are the soundness of each channel and transaction, which every act keeps. -/
theorem channelsKeepPromises : Obligations.ChannelsKeepPromises := by
  intro s t frames staging slots run
  exact State.channelsSound_iff.mp
    ((step_acts run).channelsSound (State.channelsSound_iff.mpr ⟨frames, staging, slots⟩))

/-- Settles O60: every act issues under the next tag, and a reset forgets all that was issued before it. -/
theorem tagsNeverReused : Obligations.TagsNeverReused := by
  refine ⟨fun first s t h run => (step_acts run).tagsFrom h, fun s t c reset run => ?_⟩
  rcases reset with rfl | rfl | rfl <;> cases run <;> exact State.resetTo_tagsFrom _ _ _

end Sys2Proof
end

section
/-! The promises of the tracker, of the receiver and of line memory, each kept by every command (04 section 4.4, 05 sections 5.4, 5.5 and
5.9, 09 R146). -/

namespace Sys2Proof.Machine

/-! ### A bounded receiver -/

/-- The lane counts of a run, and 0 before one (R76). -/
def LaneCount (l : Nat) : Prop := l = 0 ∨ l = 1 ∨ l = 2 ∨ l = 4

/-- What `State.receiverBounded` says of the receiver itself. -/
structure Receiver.Bounded (r : Receiver) : Prop where
  verified : r.verifyCount ≤ 3
  bad : r.badCount ≤ 1
  awaited : r.state = .verify ∧ r.phase = .header → r.verifyCount < 3
  lanes : LaneCount r.lanes
  unused : ∀ j : LaneId, r.lanes ≤ j.val → r.held[j] = []
  off : r.state = .off → r.packet = none ∧ r.positions = #v[none, none, none, none] ∧ r.held = #v[[], [], [], []]

theorem State.receiverBounded_iff (s : State) : s.receiverBounded ↔ s.receiver.Bounded ∧ LaneCount s.run.lanesRead := by
  constructor
  · rintro ⟨verified, bad, awaited, lanes, read, unused, off⟩
    exact ⟨⟨verified, bad, awaited, lanes, unused, off⟩, read⟩
  · rintro ⟨⟨verified, bad, awaited, lanes, unused, off⟩, read⟩
    exact ⟨verified, bad, awaited, lanes, read, unused, off⟩

theorem emptyLanes_getElem (j : LaneId) : (#v[[], [], [], []] : Vector (List LaneByte) 4)[j] = [] := by
  match j with
  | 0 | 1 | 2 | 3 => rfl

namespace Receiver.Bounded

variable {r : Receiver}

theorem enterOff (h : r.Bounded) : r.enterOff.Bounded where
  verified := Nat.zero_le _
  bad := Nat.zero_le _
  awaited := fun verify => by simp [Receiver.enterOff] at verify
  lanes := h.lanes
  unused := fun j _ => emptyLanes_getElem j
  off := fun _ => ⟨rfl, rfl, rfl⟩

theorem enterHunt (h : r.Bounded) : r.enterHunt.Bounded where
  verified := Nat.zero_le _
  bad := Nat.zero_le _
  awaited := fun verify => by simp [Receiver.enterHunt] at verify
  lanes := h.lanes
  unused := fun j _ => emptyLanes_getElem j
  off := fun off => by simp [Receiver.enterHunt] at off

/-- The receiver hunts on any lane count of a run, with any error counts. -/
theorem hunting {w : Receiver} (lanes : LaneCount w.lanes) (hunts : w = w.enterHunt) : w.Bounded := by
  rw [hunts]
  exact ⟨Nat.zero_le _, Nat.zero_le _, fun verify => by simp [Receiver.enterHunt] at verify, lanes,
    fun j _ => emptyLanes_getElem j, fun off => by simp [Receiver.enterHunt] at off⟩

/-- On a receiver that is on, the lanes in use may come to hold other bytes. -/
theorem holding (h : r.Bounded) (on : r.state ≠ .off) {held : Vector (List LaneByte) 4}
    (unused : ∀ j : LaneId, r.lanes ≤ j.val → held[j] = []) : ({ r with held := held } : Receiver).Bounded :=
  ⟨h.verified, h.bad, h.awaited, h.lanes, unused, fun off => absurd off on⟩

theorem receive (h : r.Bounded) (runs : LaneRuns) : (r.receive runs).Bounded := by
  unfold Receiver.receive
  split
  · exact h
  · refine h.holding ‹_› fun j unused => ?_
    rw [perLane_getElem, if_neg (by omega)]
    exact h.unused j unused

theorem consume (h : r.Bounded) (on : r.state ≠ .off) (count : LaneId → Nat) : (r.consume count).Bounded :=
  h.holding on fun j unused => by rw [perLane_getElem, h.unused j unused, List.drop_nil]

theorem takeBoundary (h : r.Bounded) (on : r.state ≠ .off) : r.takeBoundary.Bounded := by
  unfold Receiver.takeBoundary
  split
  · split
    · exact ⟨Nat.zero_le _, h.bad, fun _ => Nat.zero_lt_succ _, h.lanes, h.unused, fun off => by simp at off⟩
    · rename_i locked
      exact ⟨h.verified, h.bad, fun verify => by simp [locked] at verify, h.lanes, h.unused, fun off => absurd off on⟩
    all_goals exact h
  · exact h

theorem takeMatch (h : r.Bounded) (on : r.state ≠ .off) {m : WordMatch} (used : m.lane.val < r.lanes) : (r.takeMatch m).Bounded := by
  refine Bounded.takeBoundary ⟨h.verified, h.bad, h.awaited, h.lanes, fun j unused => ?_, fun off => absurd off on⟩ on
  have apart : m.lane.val ≠ j.val := by
    have : r.lanes ≤ j.val := unused
    omega
  exact (Vector.getElem_set_ne m.lane.isLt j.isLt apart).trans (h.unused j unused)

theorem matchOn (h : r.Bounded) (lane : LaneId) : (r.matchOn lane).Bounded := by
  unfold Receiver.matchOn
  split
  · rename_i searches
    have on : r.state ≠ .off := fun off => by simp [Receiver.searching, off] at searches
    split
    · rename_i m found
      exact h.takeMatch on (by rw [(findWord_lane found).1]; exact searches.2)
    · exact h
  · exact h

theorem search (n : Nat) (h : r.Bounded) : (r.search n).Bounded := by
  induction n generalizing r with
  | zero => exact h
  | succ n ih =>
    unfold Receiver.search
    split
    · rename_i searches
      split
      · rename_i m found
        exact ih (h.takeMatch (by simp [searches.1]) (Receiver.nextMatch_some found).1)
      · exact h
    · exact h

theorem passBoundary (h : r.Bounded) (on : r.state ≠ .off) (awaited : r.state = .verify → r.verifyCount < 3) :
    r.passBoundary.Bounded := by
  have taken := h.consume on fun j => r.extent j + 4
  exact ⟨h.verified, h.bad, fun verify => awaited verify.1, h.lanes, taken.unused, fun off => absurd off on⟩

/-- Another phase, packet and counts on a receiver that is on and not about to await a header in VERIFY. -/
theorem goOn (h : r.Bounded) (on : r.state ≠ .off) {phase : ReceiverPhase} (awaited : phase ≠ .header) (packet : Option (BitVec 64))
    {verified bad : Nat} (hv : verified ≤ 3) (hb : bad ≤ 1) :
    ({ r with phase := phase, packet := packet, verifyCount := verified, badCount := bad } : Receiver).Bounded :=
  ⟨hv, hb, fun verify => absurd verify.2 awaited, h.lanes, h.unused, fun off => absurd off on⟩

end Receiver.Bounded

/-! ### What every command upholds -/

/-- `t` keeps the promises on the tracker, the receiver and line memory that `s` keeps. -/
structure State.Upholds (s t : State) : Prop where
  balanced : s.framesBalanced → t.framesBalanced
  bounded : s.trackerBounded → t.trackerBounded
  receiver : s.receiverRests → s.receiverBounded → t.receiverRests ∧ t.receiverBounded
  lineMemory : s.lineMemoryBounded → t.lineMemoryBounded

namespace State.Upholds

theorem trans {s t u : State} (h : s.Upholds t) (g : t.Upholds u) : s.Upholds u where
  balanced := fun x => g.balanced (h.balanced x)
  bounded := fun x => g.bounded (h.bounded x)
  receiver := fun x y => g.receiver (h.receiver x y).1 (h.receiver x y).2
  lineMemory := fun x => g.lineMemory (h.lineMemory x)

/-- Everything that the promises speak of is as it was. -/
theorem of_eq {s t : State} (state : t.run.state = s.run.state) (lanes : t.run.lanesRead = s.run.lanesRead)
    (receiver : t.receiver = s.receiver) (tracker : t.tracker = s.tracker) (candidate : t.plan.candidate = s.plan.candidate)
    (allocations : t.allocations = s.allocations) : s.Upholds t where
  balanced := fun h => by rwa [State.framesBalanced, tracker]
  bounded := fun h => by rwa [State.trackerBounded, tracker]
  receiver := fun x y => ⟨by rwa [State.receiverRests, state, receiver], by rwa [State.receiverBounded, lanes, receiver]⟩
  lineMemory := fun h => by rwa [State.lineMemoryBounded, candidate, allocations]

theorem refl (s : State) : s.Upholds s := of_eq rfl rfl rfl rfl rfl rfl

theorem of_notices {s t : State} (h : s.SameNotices t) : s.Upholds t :=
  of_eq (by rw [h.run]) (by rw [h.run]) h.receiver h.tracker (by rw [h.plan]) h.allocations

theorem of_same {s t : State} (h : s.SameBlocks t) : s.Upholds t := of_notices (.of_same h)

end State.Upholds

open State.Upholds (refl of_eq of_notices of_same)

variable (s : State)

/-! ### One block at a time -/

/-- A receiver that stays OFF if it was, and bounded. -/
theorem State.setReceiver_upholds {r : Receiver} (off : s.receiver.state = .off → r.state = .off)
    (bounded : s.receiver.Bounded → r.Bounded) : s.Upholds (s.setReceiver r) where
  balanced := id
  bounded := id
  receiver := fun rests h =>
    ⟨fun halted => off (rests halted), (State.receiverBounded_iff _).mpr
      ⟨bounded ((s.receiverBounded_iff).mp h).1, ((s.receiverBounded_iff).mp h).2⟩⟩
  lineMemory := id

theorem State.setTracker_upholds {t : Tracker} (balanced : s.framesBalanced → (s.setTracker t).framesBalanced)
    (bounded : s.trackerBounded → (s.setTracker t).trackerBounded) : s.Upholds (s.setTracker t) :=
  ⟨balanced, bounded, fun x y => ⟨x, y⟩, id⟩

/-- Counts of no frame, and a deadline. -/
theorem State.setTracker_upholds_of_eq {t : Tracker} (state : t.state = s.tracker.state)
    (started : t.framesStarted = s.tracker.framesStarted) (ended : t.framesEnded = s.tracker.framesEnded)
    (truncated : t.framesTruncated = s.tracker.framesTruncated) (nextRow : t.nextRow = s.tracker.nextRow)
    (height : t.height = s.tracker.height) (banks : t.banks = s.tracker.banks) : s.Upholds (s.setTracker t) :=
  s.setTracker_upholds (fun h => by simpa [State.framesBalanced, State.setTracker, state, started, ended, truncated] using h)
    (fun h => by simpa [State.trackerBounded, State.setTracker, nextRow, height, banks] using h)

/-- A pending plan no larger than line memory, or none. -/
theorem State.setPlan_upholds {p : PlanUnit}
    (fits : s.lineMemoryBounded → ∀ q, p.candidate = some q → q.lineBlocks ≤ 512) : s.Upholds (s.setPlan p) :=
  ⟨id, id, fun x y => ⟨x, y⟩, fun h => ⟨h.1, fits h⟩⟩

theorem State.setPlan_upholds_of_eq {p : PlanUnit} (h : p.candidate = s.plan.candidate) : s.Upholds (s.setPlan p) :=
  s.setPlan_upholds fun bounded q hq => bounded.2 q (h ▸ hq)

theorem State.ask_upholds (r : Request) : s.Upholds (s.ask r) := of_same (s.ask_same r)

theorem State.raise_upholds (c : AttentionCause) : s.Upholds (s.raise c) := of_same (s.raise_same c)

theorem State.issue_upholds (role : PortRole) (access : PortAccess) : s.Upholds (s.issue role access) :=
  of_same (s.issue_same role access)

/-! ### Entry to FAULT and the resets -/

theorem State.enterFault_upholds : s.Upholds s.enterFault where
  balanced := fun h => by
    simp only [State.framesBalanced] at h ⊢
    change s.tracker.framesStarted = s.tracker.framesEnded
      + (if s.tracker.state = .idle then s.tracker.framesTruncated else s.tracker.framesTruncated + 1) + 0
    rw [h]
    split <;> simp [BitVec.add_assoc]
  bounded := id
  receiver := fun _ h => by
    obtain ⟨bounded, lanes⟩ := (s.receiverBounded_iff).mp h
    exact ⟨fun _ => rfl, (State.receiverBounded_iff _).mpr ⟨bounded.enterOff, lanes⟩⟩
  lineMemory := fun h => ⟨h.1, fun _ none => by cases none⟩

theorem Receiver.initial_bounded : Receiver.initial.Bounded :=
  ⟨Nat.zero_le _, Nat.zero_le _, fun verify => by simp [Receiver.initial] at verify, .inl rfl, fun j _ => emptyLanes_getElem j,
    fun _ => ⟨rfl, rfl, rfl⟩⟩

theorem Tracker.initial_bounded :
    Tracker.initial.nextRow ≤ Tracker.initial.height.toNat
      ∧ ∀ b : BankId, Tracker.initial.banks[b].bytes.length ≤ 4096 ∧ Tracker.initial.banks[b].rows ≤ 4 :=
  ⟨Nat.zero_le _, fun b => by match b with | 0 | 1 => exact ⟨Nat.zero_le _, Nat.zero_le _⟩⟩

/-- No view has a block after a reset, and no plan is pending. -/
theorem State.reset_lineMemoryBounded : State.reset.lineMemoryBounded :=
  ⟨by simp [State.reset, Allocation.blocks, Allocation.empty, allViews], fun _ pending => by cases pending⟩

theorem State.resetTo_upholds (anchor : DWord) (enables : BitVec 14) (timebase : DWord) :
    s.Upholds (s.resetTo anchor enables timebase) where
  balanced := fun _ => rfl
  bounded := fun _ => Tracker.initial_bounded
  receiver := fun _ _ => ⟨fun _ => rfl, (State.receiverBounded_iff _).mpr ⟨Receiver.initial_bounded, .inl rfl⟩⟩
  lineMemory := fun _ => State.reset_lineMemoryBounded

/-! ### Answers -/

/-- An answer to the memory path leaves the blocks of the promises, or sends the run to FAULT. -/
def State.LeavesOrFaults (s t : State) : Prop := s.SameNotices t ∨ ∃ u, s.SameNotices u ∧ t = u.enterFault

theorem State.LeavesOrFaults.upholds {s t : State} (h : s.LeavesOrFaults t) : s.Upholds t := by
  rcases h with same | ⟨u, same, rfl⟩
  · exact of_notices same
  · exact (of_notices same).trans u.enterFault_upholds

theorem State.SameBlocks.leaves {s t : State} (h : s.SameBlocks t) : s.LeavesOrFaults t := .inl (.of_same h)

theorem State.enterFault_leavesOrFaults : s.LeavesOrFaults s.enterFault := .inr ⟨s, .of_same (.refl s), rfl⟩

theorem State.LeavesOrFaults.after {s t u : State} (h : s.SameNotices t) (g : t.LeavesOrFaults u) : s.LeavesOrFaults u := by
  rcases g with same | ⟨w, same, rfl⟩
  · exact .inl (h.trans same)
  · exact .inr ⟨w, h.trans same, rfl⟩

theorem State.dropPort_notices (tag : Nat) : s.SameNotices (s.dropPort tag) := .of_queue s s.queue _

theorem State.dropWrite_notices (tag : Nat) : s.SameNotices (s.dropWrite tag) := .of_queue s _ s.port

theorem State.answered_leavesOrFaults {α : Type} {pick : PortRole → Option α} {deliver : α → State → State} (tag : Nat)
    (h : ∀ owner (t : State), t.LeavesOrFaults (deliver owner t)) : s.LeavesOrFaults (s.answered tag pick deliver) :=
  s.answered_induct s.LeavesOrFaults (State.SameBlocks.refl s).leaves (.inl (s.dropPort_notices tag))
    fun owner _ => .after (s.dropPort_notices tag) (h owner _)

theorem State.responded_leavesOrFaults {α : Type} {pick : WriteRole → Option α} {deliver : α → State → State} (tag : Nat)
    (h : ∀ owner (t : State), t.LeavesOrFaults (deliver owner t)) : s.LeavesOrFaults (s.responded tag pick deliver) :=
  s.responded_induct s.LeavesOrFaults (State.SameBlocks.refl s).leaves (.inl (s.dropWrite_notices tag))
    fun owner _ => .after (s.dropWrite_notices tag) (h owner _)

theorem firstWriteAnswered_leavesOrFaults (x : CasAnswer) (k : ViewId) : s.LeavesOrFaults (firstWriteAnswered x k s) := by
  cases x with
  | error => exact s.enterFault_leavesOrFaults
  | exchanged | notExchanged => exact (firstWriteAnswered_same s _ (by decide) k).leaves

theorem returnAnswered_leavesOrFaults (x : CasAnswer) (k : ViewId) : s.LeavesOrFaults (returnAnswered x k s) := by
  cases x with
  | error => exact s.enterFault_leavesOrFaults
  | exchanged | notExchanged => exact (returnAnswered_same s _ (by decide) k).leaves

theorem sealingAnswered_leavesOrFaults (x : CasAnswer) (k : ViewId) : s.LeavesOrFaults (sealingAnswered x k s) := by
  cases x with
  | error => exact s.enterFault_leavesOrFaults
  | exchanged | notExchanged => exact (sealingAnswered_same s _ (by decide) k).leaves

theorem frameRecordAnswered_leavesOrFaults (x : WriteAnswer) (k : ViewId) : s.LeavesOrFaults (frameRecordAnswered x k s) := by
  cases x with
  | error => exact s.enterFault_leavesOrFaults
  | ok => exact (frameRecordAnswered_same s k).leaves

theorem viewTallyAnswered_leavesOrFaults (x : WriteAnswer) (k : ViewId) (closing : Bool) :
    s.LeavesOrFaults (viewTallyAnswered x k closing s) := by
  cases x with
  | error => exact s.enterFault_leavesOrFaults
  | ok => exact (viewTallyAnswered_same s k closing).leaves

theorem linkTallyAnswered_leavesOrFaults (x : WriteAnswer) : s.LeavesOrFaults (linkTallyAnswered x s) := by
  cases x with
  | error => exact s.enterFault_leavesOrFaults
  | ok => exact (State.SameBlocks.refl s).leaves

/-- The commands of the memory path but the response to an adoption word write, which may end the START sequence. -/
def onMemoryPath : Instr → Bool
  | .linkTallyResponse _ _ | .claimServiceStart _ | .slotReadAnswer _ _ | .claimAnswer _ _ | .refusalAnswer _ _
  | .firstWriteAnswer _ _ | .returnAnswer _ _ | .admission | .rowWriteResponse _ _ | .metadataCopyResponse _ _ | .sealingEntry _
  | .frameRecordResponse _ _ | .sealingAnswer _ _ | .viewTallyResponse _ _ => true
  | _ => false

theorem exec_memoryPath {c : Instr} (h : onMemoryPath c = true) : ∃ t, exec c s = .next t ∧ s.LeavesOrFaults t := by
  cases c with
  | linkTallyResponse tag x => exact ⟨_, rfl, s.responded_leavesOrFaults tag fun _ t => linkTallyAnswered_leavesOrFaults t x⟩
  | claimServiceStart p => exact ⟨_, rfl, (startService_same s p).leaves⟩
  | slotReadAnswer tag x => exact ⟨_, rfl, s.answered_leavesOrFaults tag fun p t => (slotReadAnswered_same t x p).leaves⟩
  | claimAnswer tag x => exact ⟨_, rfl, s.answered_leavesOrFaults tag fun p t => (claimAnswered_same t x p).leaves⟩
  | refusalAnswer tag x => exact ⟨_, rfl, s.answered_leavesOrFaults tag fun p t => (refusalAnswered_same t x p).leaves⟩
  | firstWriteAnswer tag x => exact ⟨_, rfl, s.answered_leavesOrFaults tag fun k t => firstWriteAnswered_leavesOrFaults t x k⟩
  | returnAnswer tag x => exact ⟨_, rfl, s.answered_leavesOrFaults tag fun k t => returnAnswered_leavesOrFaults t x k⟩
  | admission => exact ⟨_, rfl, .inl (admitOne_same s)⟩
  | rowWriteResponse tag x => exact ⟨_, rfl, s.responded_leavesOrFaults tag fun r t => (rowAnswered_same t x r.1 r.2.1 r.2.2).leaves⟩
  | metadataCopyResponse tag x => exact ⟨_, rfl, s.responded_leavesOrFaults tag fun r t => (copyAnswered_same t x r.1 r.2).leaves⟩
  | sealingEntry k => exact ⟨_, rfl, (enterSealing_same s k).leaves⟩
  | frameRecordResponse tag x => exact ⟨_, rfl, s.responded_leavesOrFaults tag fun k t => frameRecordAnswered_leavesOrFaults t x k⟩
  | sealingAnswer tag x => exact ⟨_, rfl, s.answered_leavesOrFaults tag fun k t => sealingAnswered_leavesOrFaults t x k⟩
  | viewTallyResponse tag x =>
    exact ⟨_, rfl, s.responded_leavesOrFaults tag fun r t => viewTallyAnswered_leavesOrFaults t x r.1 r.2⟩
  | _ => exact absurd h (by simp [onMemoryPath])

theorem State.answered_upholds {α : Type} {pick : PortRole → Option α} {deliver : α → State → State} (tag : Nat)
    (h : ∀ owner (t : State), t.Upholds (deliver owner t)) : s.Upholds (s.answered tag pick deliver) :=
  s.answered_induct s.Upholds (refl s) (of_notices (s.dropPort_notices tag))
    fun owner _ => (of_notices (s.dropPort_notices tag)).trans (h owner _)

theorem State.responded_upholds {α : Type} {pick : WriteRole → Option α} {deliver : α → State → State} (tag : Nat)
    (h : ∀ owner (t : State), t.Upholds (deliver owner t)) : s.Upholds (s.responded tag pick deliver) :=
  s.responded_induct s.Upholds (refl s) (of_notices (s.dropWrite_notices tag))
    fun owner _ => (of_notices (s.dropWrite_notices tag)).trans (h owner _)

/-- The receiver leaves OFF at the entry to RUNNING, on the lane count read. -/
theorem enterRunning_upholds : s.Upholds (enterRunning s) where
  balanced := id
  bounded := id
  receiver := fun _ h => by
    obtain ⟨-, lanes⟩ := (s.receiverBounded_iff).mp h
    refine ⟨fun halted => ?_, (State.receiverBounded_iff _).mpr ⟨.hunting lanes rfl, lanes⟩⟩
    simp [enterRunning] at halted
  lineMemory := id

/-- The run state moves on, resting only if it rested before. -/
theorem State.restate_upholds {t : State} (rests : t.run.state = .stopped ∨ t.run.state = .starting ∨ t.run.state = .fault →
      s.run.state = .stopped ∨ s.run.state = .starting ∨ s.run.state = .fault)
    (lanes : LaneCount s.run.lanesRead → LaneCount t.run.lanesRead) (receiver : t.receiver = s.receiver)
    (tracker : t.tracker = s.tracker) (candidate : t.plan.candidate = s.plan.candidate) (allocations : t.allocations = s.allocations) :
    s.Upholds t where
  balanced := fun h => by rwa [State.framesBalanced, tracker]
  bounded := fun h => by rwa [State.trackerBounded, tracker]
  receiver := fun x y => by
    obtain ⟨bounded, read⟩ := (s.receiverBounded_iff).mp y
    refine ⟨fun halted => ?_, (State.receiverBounded_iff _).mpr ⟨?_, lanes read⟩⟩ <;> rw [receiver]
    · exact x (rests halted)
    · exact bounded
  lineMemory := fun h => by rwa [State.lineMemoryBounded, candidate, allocations]

theorem adoptionWordAnswered_upholds (x : WriteAnswer) : s.Upholds (adoptionWordAnswered x s) := by
  unfold adoptionWordAnswered
  split
  · exact s.enterFault_upholds
  · split
    · exact refl s
    · rename_i starting
      split
      · exact enterRunning_upholds s
      · exact s.restate_upholds (fun _ => .inr (.inl (by simpa using starting))) id rfl rfl rfl rfl
      all_goals exact refl s

/-! ### The plan unit -/

theorem discardCandidate_upholds : s.Upholds (discardCandidate s) := by
  unfold discardCandidate
  split
  · exact refl s
  · rename_i pending
    refine (s.setPlan_upholds fun _ q hq => ?_).trans (State.ask_upholds _ _)
    simp [PlanUnit.dropCandidate, pending] at hq

theorem reportRejection_upholds (q : Word) (r : Reason) (v : Byte) : s.Upholds (reportRejection q r v s) :=
  ((s.setPlan_upholds_of_eq (by rfl)).trans (State.ask_upholds _ _)).trans (State.raise_upholds _ _)

theorem quietFetch_upholds : s.Upholds s.quietFetch := s.setPlan_upholds_of_eq rfl

theorem readSelector_upholds (r : PortRole) : s.Upholds (readSelector r s) :=
  (s.setPlan_upholds_of_eq (by rfl)).trans (State.issue_upholds _ _ _)

theorem readPage_upholds (r : PortRole) (x : Selector) : s.Upholds (readPage r x s) :=
  (s.setPlan_upholds_of_eq (by rfl)).trans (State.issue_upholds _ _ _)

theorem failStart_upholds (q : Word) (r : Reason) (v : Byte) : s.Upholds (failStart q r v s) :=
  (reportRejection_upholds s q r v).trans (of_eq rfl rfl rfl rfl rfl rfl)

/-- The blocks of the allocations of a plan are its line blocks. -/
theorem Plan.allocations_blocks (p : Plan) : (allViews.map fun k => (p.allocations[k]).blocks).sum = p.lineBlocks := by
  have each (k : ViewId) : (p.allocation k).blocks = blocksOf p.sizes[k] := by
    unfold Plan.allocation
    split <;> rename_i sizes <;> rw [sizes] <;> rfl
  simp [allViews, Plan.lineBlocks, Plan.allocations, each]

/-- A plan that fits in line memory is adopted. -/
theorem adoptPlan_upholds (p : Plan) (n : Word) (fits : s.lineMemoryBounded → p.lineBlocks ≤ 512) : s.Upholds (adoptPlan p n s) := by
  refine .trans (.trans ?_ (State.ask_upholds _ _)) (State.raise_upholds _ _)
  refine ⟨id, id, fun x y => ⟨x, y⟩, fun h => ⟨?_, fun _ none => by cases none⟩⟩
  exact p.allocations_blocks.le.trans (fits h)

/-- A valid plan fits in line memory (R18, R19 step 5). -/
theorem judge_fits {pools : Vector (Option PoolDefinition) 4} {q : Word} {x : ReadAnswer 8192} {p : Plan}
    (h : judge pools q x = .valid p) : p.lineBlocks ≤ 512 := by
  unfold judge at h
  split at h
  · cases h
  · unfold judgePage at h
    split at h
    · cases h
    · split at h
      · cases h
      · split at h
        · cases h
        · split at h
          · cases h
          · rename_i fits
            cases h
            simpa [Config.lineBlocks] using fits

theorem startPageAnswered_upholds (x : ReadAnswer 8192) : s.Upholds (startPageAnswered x s) := by
  unfold startPageAnswered
  split
  · exact quietFetch_upholds s
  · split
    · rename_i p valid
      exact (adoptPlan_upholds s p _ fun _ => judge_fits valid).trans (of_eq rfl rfl rfl rfl rfl rfl)
    · exact failStart_upholds s _ _ _

theorem startSelectorAnswered_upholds (x : ReadAnswer 64) : s.Upholds (startSelectorAnswered x s) := by
  unfold startSelectorAnswered
  split
  · exact quietFetch_upholds s
  · split
    · exact s.enterFault_upholds
    · split
      · exact readPage_upholds s _ _
      · exact failStart_upholds s _ _ _

theorem frameEndFetch_upholds : s.Upholds (frameEndFetch s) := by
  unfold frameEndFetch
  split
  · exact readSelector_upholds s _
  · exact refl s

theorem selectorAnswered_upholds (x : ReadAnswer 64) : s.Upholds (selectorAnswered x s) := by
  have quiet := quietFetch_upholds s
  unfold selectorAnswered
  split
  · exact quiet
  · split
    · exact quiet.trans (reportRejection_upholds _ _ _ _)
    · unfold takeSelector
      split
      · exact quiet.trans (discardCandidate_upholds _)
      · split
        · exact quiet
        · split
          · exact quiet.trans (discardCandidate_upholds _)
          · split
            · exact readPage_upholds s _ _
            · exact (quiet.trans (discardCandidate_upholds _)).trans (reportRejection_upholds _ _ _ _)

theorem pageAnswered_upholds (x : ReadAnswer 8192) : s.Upholds (pageAnswered x s) := by
  have quiet := quietFetch_upholds s
  unfold pageAnswered
  split
  · exact quiet
  · split
    · rename_i p valid
      refine (quiet.trans (discardCandidate_upholds _)).trans (State.setPlan_upholds _ fun _ q hq => ?_)
      obtain rfl : p = q := by simpa using hq
      exact judge_fits valid
    · refine (quiet.trans ?_).trans (reportRejection_upholds _ _ _ _)
      split
      · exact discardCandidate_upholds _
      · exact refl _

theorem planFrameStart_upholds (n : Half) : s.Upholds (planFrameStart n s) := by
  unfold planFrameStart
  split
  · exact refl s
  · split
    · exact refl s
    · rename_i p pending
      split
      · exact adoptPlan_upholds s p _ fun h => h.2 p pending
      · exact ((s.setPlan_upholds_of_eq (by rfl)).trans (State.ask_upholds _ _)).trans (State.raise_upholds _ _)

theorem linkWordAnswered_upholds (x : ReadAnswer 32) : s.Upholds (linkWordAnswered x s) := by
  unfold linkWordAnswered
  split
  · exact refl s
  · split
    · exact s.enterFault_upholds
    · split
      · rename_i data count
        refine .trans (s.restate_upholds ?_ (fun _ => .inr ?_) ?_ ?_ ?_ ?_) (State.issue_upholds _ _ _)
        · exact id
        · simpa [laneCountOk, or_assoc] using count
        all_goals rfl
      · exact failStart_upholds s _ _ _

theorem poolTableAnswered_upholds (x : ReadAnswer 512) : s.Upholds (poolTableAnswered x s) := by
  unfold poolTableAnswered
  split
  · exact refl s
  · split
    · exact s.enterFault_upholds
    · split
      · refine .trans ?_ (readSelector_upholds _ _)
        exact of_eq rfl rfl rfl rfl rfl rfl
      · exact failStart_upholds s _ _ _

/-! ### The frame tracker -/

theorem restartDeadline_upholds : s.Upholds (restartDeadline s) := by
  unfold restartDeadline
  split
  · exact s.setTracker_upholds_of_eq rfl rfl rfl rfl rfl rfl rfl
  · exact refl s

theorem closeMetadata_upholds : s.Upholds (closeMetadata s) := of_same (closeMetadata_same s)

theorem announceEnd_upholds : s.Upholds (announceEnd s) := (s.ask_upholds _).trans (frameEndFetch_upholds _)

/-- An accepted META_ROW leaves its bank with at most 4096 bytes, and four rows if it had fewer. -/
theorem Bank.append_bounded {b : Bank} (payload : List Byte) (room : b.rows < 4) :
    (b.append payload).bytes.length ≤ 4096 ∧ (b.append payload).rows ≤ 4 :=
  ⟨List.length_take_le _ _, room⟩

/-- The banks stay bounded when one is replaced by a bounded one. -/
theorem banks_bounded {banks : Vector Bank 2} (h : ∀ b : BankId, banks[b].bytes.length ≤ 4096 ∧ banks[b].rows ≤ 4) (i : BankId)
    {new : Bank} (hn : new.bytes.length ≤ 4096 ∧ new.rows ≤ 4) (b : BankId) :
    (banks.set i new)[b].bytes.length ≤ 4096 ∧ (banks.set i new)[b].rows ≤ 4 := by
  by_cases here : i.val = b.val
  · have set : (banks.set i new)[b] = new := (Vector.getElem_set _ b.isLt).trans (if_pos here)
    rwa [set]
  · have kept : (banks.set i new)[b] = banks[b] := Vector.getElem_set_ne i.isLt b.isLt here
    rw [kept]
    exact h b

theorem takeMetaRow_upholds (x : List Byte) : s.Upholds (takeMetaRow x s) := by
  unfold takeMetaRow
  split
  · exact s.setTracker_upholds_of_eq rfl rfl rfl rfl rfl rfl rfl
  · refine .trans (s.setTracker_upholds_of_eq ?_ ?_ ?_ ?_ ?_ ?_ ?_) (restartDeadline_upholds _) <;> rfl
  · split
    · rename_i room
      refine .trans (s.setTracker_upholds ?_ fun h => ?_) (restartDeadline_upholds _)
      · exact id
      · exact ⟨h.1, banks_bounded h.2 _ (Bank.append_bounded x room)⟩
    · refine .trans (s.setTracker_upholds_of_eq ?_ ?_ ?_ ?_ ?_ ?_ ?_) (restartDeadline_upholds _) <;> rfl

theorem takePixelRow_upholds (between : List NoticeStep) (row : Nat) (x : List Byte) :
    s.Upholds (takePixelRow between row x s) := by
  unfold takePixelRow
  split
  · exact s.setTracker_upholds_of_eq rfl rfl rfl rfl rfl rfl rfl
  · rename_i inFrame
    have closed : s.Upholds ((closeMetadata s).setTracker { (closeMetadata s).tracker with state := .body }) := by
      refine (closeMetadata_upholds s).trans (State.setTracker_upholds _ (fun h => ?_) id)
      have open' : (closeMetadata s).tracker.state ≠ .idle := by rwa [(closeMetadata_same s).tracker]
      simpa [State.framesBalanced, State.setTracker, open'] using h
    have opened := closed.trans (restartDeadline_upholds _)
    dsimp only
    generalize restartDeadline ((closeMetadata s).setTracker { (closeMetadata s).tracker with state := .body }) = u at opened ⊢
    split
    · exact opened.trans (u.setTracker_upholds_of_eq rfl rfl rfl rfl rfl rfl rfl)
    · rename_i inside
      have resolved := (resolveMissing_same u between u.tracker.nextRow (row - u.tracker.nextRow)).trans
        (resolveRow_same _ between (some x) row)
      generalize resolveRow between (some x) row (resolveMissing between u.tracker.nextRow (row - u.tracker.nextRow) u) = w
        at resolved ⊢
      refine (opened.trans (of_notices resolved)).trans (w.setTracker_upholds id fun h => ⟨?_, h.2⟩)
      change row + 1 ≤ w.tracker.height.toNat
      rw [resolved.tracker]
      omega

theorem State.framesBalanced_ended {s : State} {t : Tracker} (inFrame : s.tracker.state ≠ .idle) (h : s.framesBalanced)
    (idle : t.state = .idle) (started : t.framesStarted = s.tracker.framesStarted)
    (closed : t.framesEnded + t.framesTruncated = s.tracker.framesEnded + s.tracker.framesTruncated + 1) :
    (s.setTracker t).framesBalanced := by
  change t.framesStarted = t.framesEnded + t.framesTruncated + (if t.state = .idle then 0 else 1)
  rw [started, h, closed, if_neg inFrame, if_pos idle]
  exact (BitVec.add_zero _).symm

theorem takeFrameEnd_upholds (between : List NoticeStep) (n : Half) : s.Upholds (takeFrameEnd between n s) := by
  unfold takeFrameEnd
  split
  · exact s.setTracker_upholds_of_eq rfl rfl rfl rfl rfl rfl rfl
  · rename_i inFrame
    dsimp only
    have resolved := (State.SameNotices.of_same (closeMetadata_same s)).trans (resolveMissing_same (closeMetadata s) between
      (closeMetadata s).tracker.nextRow ((closeMetadata s).tracker.height.toNat - (closeMetadata s).tracker.nextRow))
    generalize resolveMissing between (closeMetadata s).tracker.nextRow
      ((closeMetadata s).tracker.height.toNat - (closeMetadata s).tracker.nextRow) (closeMetadata s) = u at resolved ⊢
    refine .trans ((of_notices resolved).trans (u.setTracker_upholds (fun h => ?_) fun h => ?_)) (announceEnd_upholds _)
    · refine State.framesBalanced_ended (by rwa [resolved.tracker]) h rfl rfl ?_
      exact add_right_comm _ _ _
    · exact ⟨Nat.le_refl _, h.2⟩

theorem truncateFrame_upholds (c : OutcomeCause) : s.Upholds (truncateFrame c s) := by
  unfold truncateFrame
  split
  · exact refl s
  · rename_i inFrame
    dsimp only
    have closed := closeMetadata_same s
    generalize closeMetadata s = u at closed ⊢
    refine .trans (.trans ((of_same closed).trans (u.setTracker_upholds (fun h => ?_) ?_))
      (of_same (State.eachView_same _ _ fun k t => truncationNotice_same t _ _ k))) (announceEnd_upholds _)
    · refine State.framesBalanced_ended (by rwa [closed.tracker]) h rfl rfl ?_
      exact (BitVec.add_assoc _ _ _).symm
    · exact id

/-- A frame begins with no other in progress. -/
theorem beginFrame_upholds (n w h : Half) (d : Byte) (idle : s.tracker.state = .idle) : s.Upholds (beginFrame n w h d s) := by
  have cancelled : s.SameBlocks (s.eachView (cancelCopy (otherBank s.tracker.currentBank))) :=
    s.eachView_same _ fun k t => cancelCopy_same t _ k
  refine (of_same cancelled).trans (State.setTracker_upholds _ (fun balanced => ?_) fun bounded => ?_)
  · simp only [State.framesBalanced] at balanced ⊢
    rw [cancelled.tracker, idle] at balanced
    simpa [State.setTracker, cancelled.tracker] using balanced
  · exact ⟨Nat.zero_le _, banks_bounded bounded.2 _ ⟨Nat.zero_le _, Nat.zero_le _⟩⟩

theorem truncateFrame_idle (c : OutcomeCause) : (truncateFrame c s).tracker.state = .idle := by
  rw [truncateFrame_tracker]
  split
  · assumption
  · rfl

theorem armGap_upholds : s.Upholds (armGap s) := s.setTracker_upholds_of_eq rfl rfl rfl rfl rfl rfl rfl

theorem takeFrameStart_upholds (n w h : Half) (d : Byte) : s.Upholds (takeFrameStart n w h d s) := by
  have begun : s.Upholds (beginFrame n w h d (truncateFrame .truncated s)) :=
    (truncateFrame_upholds s _).trans (beginFrame_upholds _ n w h d (truncateFrame_idle s _))
  have planned : s.Upholds (armGap (planFrameStart n (beginFrame n w h d (truncateFrame .truncated s)))) :=
    (begun.trans (planFrameStart_upholds _ n)).trans (armGap_upholds _)
  have raised := planned.trans (of_same (raiseMismatch_same _ (beginFrame n w h d (truncateFrame .truncated s)).adoptionGap))
  exact raised.trans (of_same (State.eachView_same _ _ fun k t => frameStartNotice_same t _ k))

theorem passPacket_upholds (between : List NoticeStep) (h : BitVec 64) (x : List Byte) : s.Upholds (passPacket between h x s) := by
  unfold passPacket
  split
  · exact takeFrameStart_upholds s _ _ _ _
  · exact takeMetaRow_upholds s _
  · exact takePixelRow_upholds s _ _ _
  · exact takeFrameEnd_upholds s _ _
  · exact refl s
  · exact refl s

theorem expireGap_upholds : s.Upholds (expireGap s) := by
  unfold expireGap
  split
  · split
    · refine .trans ?_ (truncateFrame_upholds _ _)
      exact of_eq rfl rfl rfl rfl rfl rfl
    · exact refl s
  · exact refl s

/-! ### The link receiver -/

theorem Receiver.receive_state (r : Receiver) (runs : LaneRuns) : (r.receive runs).state = r.state := by
  unfold Receiver.receive
  split <;> rfl

theorem State.receive_upholds (runs : LaneRuns) : s.Upholds (s.receive runs) :=
  s.setReceiver_upholds (fun off => (Receiver.receive_state _ _).trans off) fun h => h.receive runs

/-- A receiver that is on may become any bounded one. -/
theorem State.setReceiver_upholds_on {r : Receiver} (on : s.receiver.state ≠ .off) (bounded : s.receiver.Bounded → r.Bounded) :
    s.Upholds (s.setReceiver r) :=
  s.setReceiver_upholds (fun off => absurd off on) bounded

theorem takeMatch_upholds (lane : LaneId) : s.Upholds (takeMatch lane s) := by
  refine s.setReceiver_upholds (fun off => ?_) fun h => h.matchOn lane
  have rests : s.receiver.matchOn lane = s.receiver := if_neg fun searches => by simp [Receiver.searching, off] at searches
  rw [rests, off]

theorem searchBoundary_upholds : s.Upholds (searchBoundary s) := by
  refine s.setReceiver_upholds (fun off => ?_) fun h => h.search _
  have rests : ∀ n, s.receiver.search n = s.receiver
    | 0 => rfl
    | _ + 1 => if_neg fun searches => by simp [off] at searches
  rw [rests, off]

theorem Receiver.takeHeader_eq {r w : Receiver} {h : BitVec 64} (taken : r.takeHeader = some (h, w)) :
    w = r.consume fun j => laneShare r.lanes 8 j.val := by
  obtain ⟨bytes, -, here⟩ := Option.map_eq_some_iff.mp taken
  exact (Prod.mk.inj here).2.symm

theorem takeVerifyHeader_upholds : s.Upholds (takeVerifyHeader s) := by
  unfold takeVerifyHeader Receiver.verifyHeader
  split
  · rename_i awaited
    have on : s.receiver.state ≠ .off := by simp [awaited.1]
    refine s.setReceiver_upholds_on on fun bounded => ?_
    split
    · rename_i h w taken
      obtain rfl := Receiver.takeHeader_eq taken
      have consumed := bounded.consume on fun j => laneShare s.receiver.lanes 8 j.val
      unfold Receiver.judgeVerify
      split
      · exact consumed.goOn on (by decide) (some h) (bounded.awaited awaited) bounded.bad
      · exact consumed.enterHunt
    · exact bounded
  · exact s.setReceiver_upholds id id

theorem takeVerifyBoundary_upholds : s.Upholds (takeVerifyBoundary s) := by
  unfold takeVerifyBoundary Receiver.verifyBoundary
  split
  · rename_i reached
    obtain ⟨verify, -, count, -⟩ := reached
    have on : s.receiver.state ≠ .off := by simp [verify]
    refine s.setReceiver_upholds_on on fun bounded => ?_
    split
    · exact bounded.passBoundary on fun _ => count
    · exact bounded.enterHunt
  · exact s.setReceiver_upholds id id

theorem endVerify_upholds : s.Upholds (endVerify s) := by
  unfold endVerify
  split
  · rename_i locks
    have on : s.receiver.state ≠ .off := fun off => by simp [Receiver.canLock, off] at locks
    refine (s.setReceiver_upholds_on on fun bounded => ?_).trans (State.raise_upholds _ _)
    have consumed := bounded.consume on s.receiver.extent
    exact ⟨bounded.verified, Nat.zero_le _, fun verify => by simp at verify, bounded.lanes, consumed.unused, fun off => by simp at off⟩
  · exact refl s

/-- The lock lost by a receiver that is on, whatever its counts have become. -/
theorem loseLock_upholds {r : Receiver} (on : s.receiver.state ≠ .off) (lanes : r.lanes = s.receiver.lanes) :
    s.Upholds (loseLock (s.setReceiver r)) := by
  refine .trans (.trans ?_ (State.raise_upholds _ _)) (truncateFrame_upholds _ _)
  exact s.setReceiver_upholds_on on fun bounded => .hunting (by change LaneCount r.lanes; rw [lanes]; exact bounded.lanes) rfl

theorem takeLockedBoundary_upholds : s.Upholds (takeLockedBoundary s) := by
  unfold takeLockedBoundary
  split
  · rename_i reached
    have on : s.receiver.state ≠ .off := by simp [reached.1]
    split
    · exact s.setReceiver_upholds_on on fun bounded => bounded.passBoundary on fun verify => by simp [reached.1] at verify
    · exact loseLock_upholds s on rfl
  · exact refl s

theorem judgeLocked_upholds (h : BitVec 64) (locked : s.receiver.state = .locked) : s.Upholds (judgeLocked h s) := by
  have on : s.receiver.state ≠ .off := by simp [locked]
  unfold judgeLocked
  split
  · unfold takeGoodHeader
    split
    all_goals
      refine s.setReceiver_upholds_on on fun bounded => ?_
      have passed := bounded.goOn on (phase := .boundary) (by decide) (some h) bounded.verified (Nat.zero_le 1)
      exact ⟨passed.verified, passed.bad, fun verify => by simp at verify, passed.lanes, passed.unused, fun off => absurd off on⟩
  · unfold takeBadHeader
    dsimp only
    split
    · exact loseLock_upholds s on rfl
    · rename_i few
      have single : s.receiver.badCount + 1 ≤ 1 := by
        simp only [Config.badHeaderLimit] at few
        omega
      split
      all_goals
        refine s.setReceiver_upholds_on on fun bounded => ?_
        exact ⟨bounded.verified, single, fun verify => by simp at verify, bounded.lanes, bounded.unused, fun off => absurd off on⟩

theorem takeLockedHeader_upholds : s.Upholds (takeLockedHeader s) := by
  unfold takeLockedHeader
  split
  · rename_i awaited
    have on : s.receiver.state ≠ .off := by simp [awaited.1]
    split
    · rename_i h w taken
      obtain rfl := Receiver.takeHeader_eq taken
      exact (s.setReceiver_upholds_on on fun bounded => bounded.consume on _).trans (judgeLocked_upholds _ h awaited.1)
    · exact refl s
  · exact refl s

theorem takePacket_upholds (between : List NoticeStep) : s.Upholds (takePacket between s) := by
  unfold takePacket
  split
  · exact refl s
  · split
    · rename_i inPayload
      have on : s.receiver.state ≠ .off := by simp [inPayload.1]
      have ended (bounded : s.receiver.Bounded) : s.receiver.endPacket.Bounded :=
        (bounded.consume on s.receiver.extent).goOn on (by decide) none bounded.verified bounded.bad
      split
      · unfold completePacket
        split
        · exact (s.setReceiver_upholds_on on ended).trans (passPacket_upholds _ _ _ _)
        · refine s.setReceiver_upholds_on on fun bounded => ?_
          have done := ended bounded
          exact ⟨done.verified, done.bad, done.awaited, done.lanes, done.unused, done.off⟩
      · exact refl s
    · exact refl s

/-! ### The run controller -/

theorem takeStart_upholds : s.Upholds (takeStart s) := by
  unfold takeStart
  split
  · exact of_eq rfl rfl rfl rfl rfl rfl
  · rename_i stopped
    split
    · exact of_eq rfl rfl rfl rfl rfl rfl
    · refine .trans (s.restate_upholds (fun _ => .inl (by simpa using stopped)) ?_ ?_ ?_ ?_ ?_) (State.issue_upholds _ _ _)
      exacts [id, rfl, rfl, rfl, rfl]

theorem markDiscard_upholds : s.Upholds (markDiscard s) := by
  unfold markDiscard
  split
  · exact refl s
  · exact s.setPlan_upholds_of_eq rfl

theorem takeStop_upholds : s.Upholds (takeStop s) := by
  unfold takeStop
  split
  · refine .trans (s.restate_upholds (fun rests => ?_) ?_ ?_ ?_ ?_ ?_) (markDiscard_upholds _)
    · simp at rests
    exacts [id, rfl, rfl, rfl, rfl]
  · exact of_eq rfl rfl rfl rfl rfl rfl

theorem abortBlocks_upholds : s.Upholds (abortBlocks s) :=
  (of_same (s.eachView_same _ fun k t => abortChannel_same t _ k)).trans (truncateFrame_upholds _ _)

theorem takeAbort_upholds : s.Upholds (takeAbort s) := by
  have accepted : s.Upholds (markDiscard (((s.record .accepted).setRunState .aborting).setProgress .none)) := by
    refine .trans (s.restate_upholds (fun rests => ?_) ?_ ?_ ?_ ?_ ?_) (markDiscard_upholds _)
    · simp at rests
    exacts [id, rfl, rfl, rfl, rfl]
  unfold takeAbort
  dsimp only
  split
  · exact accepted
  · exact accepted.trans (abortBlocks_upholds _)
  · exact accepted.trans (abortBlocks_upholds _)
  all_goals exact of_eq rfl rfl rfl rfl rfl rfl

theorem takeClearFault_upholds : s.Upholds (takeClearFault s) := by
  unfold takeClearFault
  split
  · exact of_eq rfl rfl rfl rfl rfl rfl
  · rename_i fault
    split
    · exact s.restate_upholds (fun _ => .inr (.inr (by simpa using fault))) id rfl rfl rfl rfl
    · exact of_eq rfl rfl rfl rfl rfl rfl

theorem writeRun_upholds (code : Word) : s.Upholds (writeRun code s) := by
  unfold writeRun
  split
  · exact takeStart_upholds s
  · split
    · exact takeStop_upholds s
    · split
      · exact takeAbort_upholds s
      · split
        · exact takeClearFault_upholds s
        · split
          · exact s.resetTo_upholds _ _ _
          · exact of_eq rfl rfl rfl rfl rfl rfl

theorem writeRegister_upholds (offset : Nat) (value : Word) : s.Upholds (writeRegister offset value s) := by
  unfold writeRegister
  split
  · exact writeRun_upholds s value
  · split
    · exact of_eq rfl rfl rfl rfl rfl rfl
    · split
      · exact of_eq rfl rfl rfl rfl rfl rfl
      · split
        · unfold writeAnchorLo
          split <;> exact of_eq rfl rfl rfl rfl rfl rfl
        · split
          · unfold writeAnchorHi
            split <;> exact of_eq rfl rfl rfl rfl rfl rfl
          · exact refl s

theorem writeWindow_upholds (offset width : Nat) (value : DWord) : s.Upholds (writeWindow offset width value s) := by
  unfold writeWindow
  split
  · exact writeRegister_upholds s _ _
  · split
    · exact (writeRegister_upholds s _ _).trans (writeRegister_upholds _ _ _)
    · exact refl s

/-- The receiver rests from the entry to STOPPED on. -/
theorem reachStopped_upholds : s.Upholds (reachStopped s) := by
  unfold reachStopped
  split
  · refine .trans ⟨?_, ?_, fun _ h => ?_, fun h => ⟨?_, fun _ none => ?_⟩⟩ (State.raise_upholds _ _)
    · exact id
    · exact id
    · obtain ⟨bounded, lanes⟩ := (s.receiverBounded_iff).mp h
      exact ⟨fun _ => rfl, (State.receiverBounded_iff _).mpr ⟨bounded.enterOff, lanes⟩⟩
    · exact h.1
    · cases none
  · exact refl s

/-! ### Commands and steps -/

theorem exec_upholds (c : Instr) : ∃ t, exec c s = .next t ∧ s.Upholds t := by
  cases c with
  | start | stop | abort | clearFault | reset | unknownCode => exact ⟨_, rfl, writeRun_upholds s _⟩
  | attention | attentionEnable | anchorLo | anchorHi => exact ⟨_, rfl, writeRegister_upholds s _ _⟩
  | ignoredRegisterWrite offset width value => exact ⟨_, rfl, writeWindow_upholds s _ _ _⟩
  | powerOnReset | portReset => exact ⟨_, rfl, s.resetTo_upholds _ _ _⟩
  | alignmentWordMatch lane run => exact ⟨_, rfl, (s.receive_upholds _).trans (takeMatch_upholds _ lane)⟩
  | verifyHeader runs => exact ⟨_, rfl, (s.receive_upholds runs).trans (takeVerifyHeader_upholds _)⟩
  | verifyBoundary runs => exact ⟨_, rfl, (s.receive_upholds runs).trans (takeVerifyBoundary_upholds _)⟩
  | boundarySearch runs => exact ⟨_, rfl, (s.receive_upholds runs).trans (searchBoundary_upholds _)⟩
  | verifyExtentEnd => exact ⟨_, rfl, endVerify_upholds s⟩
  | lockedBoundary runs => exact ⟨_, rfl, (s.receive_upholds runs).trans (takeLockedBoundary_upholds _)⟩
  | lockedHeader runs => exact ⟨_, rfl, (s.receive_upholds runs).trans (takeLockedHeader_upholds _)⟩
  | packetComplete last => exact ⟨_, rfl, (s.receive_upholds last.runs).trans (takePacket_upholds _ _)⟩
  | gapTimeout => exact ⟨_, rfl, expireGap_upholds s⟩
  | linkWordAnswer tag x => exact ⟨_, rfl, s.answered_upholds tag fun _ t => linkWordAnswered_upholds t x⟩
  | poolTableAnswer tag x => exact ⟨_, rfl, s.answered_upholds tag fun _ t => poolTableAnswered_upholds t x⟩
  | startSelectorAnswer tag x => exact ⟨_, rfl, s.answered_upholds tag fun _ t => startSelectorAnswered_upholds t x⟩
  | startPageAnswer tag x => exact ⟨_, rfl, s.answered_upholds tag fun _ t => startPageAnswered_upholds t x⟩
  | selectorAnswer tag x => exact ⟨_, rfl, s.answered_upholds tag fun _ t => selectorAnswered_upholds t x⟩
  | pageAnswer tag x => exact ⟨_, rfl, s.answered_upholds tag fun _ t => pageAnswered_upholds t x⟩
  | adoptionWordResponse tag x => exact ⟨_, rfl, s.responded_upholds tag fun _ t => adoptionWordAnswered_upholds t x⟩
  | runStopped => exact ⟨_, rfl, reachStopped_upholds s⟩
  | linkTallyResponse | claimServiceStart | slotReadAnswer | claimAnswer | refusalAnswer | firstWriteAnswer | returnAnswer | admission
  | rowWriteResponse | metadataCopyResponse | sealingEntry | frameRecordResponse | sealingAnswer | viewTallyResponse =>
    exact (exec_memoryPath s (by rfl)).imp fun _ ⟨next, path⟩ => ⟨next, path.upholds⟩

theorem step_upholds {s t : State} (h : step s = .next t) : s.Upholds t := by
  rcases step_cases h with ⟨c, rest, -, run⟩ | ⟨c, rfl⟩ | rfl
  · obtain ⟨u, next, upholds⟩ := exec_upholds { s with pending := rest } c
    obtain rfl : u = t := by simpa [next] using run
    exact .trans (of_eq rfl rfl rfl rfl rfl rfl : s.Upholds { s with pending := rest }) upholds
  · exact of_eq rfl rfl rfl rfl rfl rfl
  · exact of_eq rfl rfl rfl rfl rfl rfl

end Sys2Proof.Machine

namespace Sys2Proof

open Sys2Proof.Machine

/-- Settles O56: every step upholds the balance of the frame counts and the bounds of the tracker. -/
theorem trackerKeepsPromises : Obligations.TrackerKeepsPromises :=
  ⟨fun _ _ h run => (step_upholds run).balanced h, fun _ _ h run => (step_upholds run).bounded h⟩

/-- Settles O57: every step upholds the receiver's rest and its ranges together. -/
theorem receiverKeepsPromises : Obligations.ReceiverKeepsPromises := fun _ _ rests bounded run =>
  (step_upholds run).receiver rests bounded

/-- Settles O59: the write queue and the request order by the acts of a step, line memory by what a step upholds. -/
theorem memoryPathKeepsPromises : Obligations.MemoryPathKeepsPromises :=
  ⟨fun _ _ h run => (step_acts run).queueBounded h, fun _ _ h run => (step_acts run).requestsDistinct h,
    fun _ _ h run => (step_upholds run).lineMemory h⟩

/-- Settles O55: each block at its reset value, the channels by the soundness of an IDLE channel with no view frame. -/
theorem soundAtReset : Obligations.SoundAtReset := by
  have channels : ∀ k, (State.reset.channel k).Sound := fun k => by
    have fresh : State.reset.channel k = Channel.initial := by simp [State.channel, State.reset]
    rw [fresh]
    rfl
  obtain ⟨frames, staging, transitions, slots⟩ :=
    State.channelsSound_iff.mp ⟨channels, fun _ outstanding => by cases outstanding⟩
  exact
    { frames := rfl
      queue := Nat.zero_le _
      requests := List.Pairwise.nil
      tags := ⟨Nat.le_refl _, fun _ outstanding => (by cases outstanding), fun _ outstanding => (by cases outstanding), List.nodup_nil⟩
      receiver := fun _ => rfl
      counts := (State.receiverBounded_iff _).mpr ⟨Receiver.initial_bounded, .inl rfl⟩
      channels := frames
      staging := staging
      tracker := Tracker.initial_bounded
      lineMemory := State.reset_lineMemoryBounded
      slots := ⟨transitions, slots⟩ }

end Sys2Proof
end

section
/-! What the commands keep: the queue of commands and the enables in every state, and the outstanding transactions in STOPPED and FAULT
(10 R172, sections 10.6 and 10.7). -/

namespace Sys2Proof.Machine

/-! ### The events on the link, for any relation -/

/-- A relation that holds across everything that the events on the link and the gap deadline are made of. -/
structure State.ClosedOnLink (R : State → State → Prop) : Prop where
  refl : ∀ s, R s s
  trans : ∀ {s t u}, R s t → R t u → R s u
  sameRun : ∀ {s t}, s.SameRun t → R s t
  receiver : ∀ s r, R s (s.setReceiver r)
  memoryStep : ∀ s x, R s (takeMemoryStep x s)
  timebase : ∀ (s : State) d, R s { s with timebase := d }

namespace State.ClosedOnLink

variable {R : State → State → Prop} (closed : State.ClosedOnLink R) (s : State)

include closed

theorem foldl {α : Type} {f : State → α → State} (h : ∀ (t : State) a, R t (f t a)) (l : List α) :
    ∀ s : State, R s (l.foldl f s) := by
  induction l with
  | nil => exact closed.refl
  | cons a l ih => exact fun s => closed.trans (h s a) (ih _)

theorem resolveRow (between : List NoticeStep) (x : Option (List Byte)) (row : Nat) : R s (resolveRow between x row s) :=
  closed.trans (closed.foldl (fun t (a : NoticeStep) => closed.memoryStep t a.step) _ s)
    (closed.sameRun (State.eachView_same _ _ fun k t => rowNotice_same t _ _ _ k).sameRun)

theorem resolveMissing (between : List NoticeStep) (first count : Nat) : R s (resolveMissing between first count s) :=
  closed.foldl (fun t row => closed.resolveRow t between none row) _ s

theorem takePixelRow (between : List NoticeStep) (row : Nat) (x : List Byte) : R s (takePixelRow between row x s) := by
  unfold Machine.takePixelRow
  split
  · exact closed.sameRun (s.setTracker_sameRun _)
  · have opened : R s (restartDeadline ((closeMetadata s).setTracker { (closeMetadata s).tracker with state := .body })) :=
      closed.sameRun (((closeMetadata_same s).sameRun.trans (State.setTracker_sameRun _ _)).trans (restartDeadline_sameRun _))
    dsimp only
    split
    · exact closed.trans opened (closed.sameRun (State.setTracker_sameRun _ _))
    · exact closed.trans (closed.trans (closed.trans opened (closed.resolveMissing _ _ _ _)) (closed.resolveRow _ _ _ _))
        (closed.sameRun (State.setTracker_sameRun _ _))

theorem takeFrameEnd (between : List NoticeStep) (number : Half) : R s (takeFrameEnd between number s) := by
  unfold Machine.takeFrameEnd
  split
  · exact closed.sameRun (s.setTracker_sameRun _)
  · exact closed.trans (closed.trans (closed.sameRun (closeMetadata_same s).sameRun) (closed.resolveMissing _ _ _ _))
      (closed.sameRun ((State.setTracker_sameRun _ _).trans (announceEnd_sameRun _)))

theorem passPacket (between : List NoticeStep) (h : BitVec 64) (x : List Byte) : R s (passPacket between h x s) := by
  unfold Machine.passPacket
  split
  · exact closed.sameRun (takeFrameStart_sameRun s _ _ _ _)
  · exact closed.sameRun (takeMetaRow_sameRun s _)
  · exact closed.takePixelRow s _ _ _
  · exact closed.takeFrameEnd s _ _
  · exact closed.refl s
  · exact closed.refl s

theorem loseLock : R s (loseLock s) :=
  closed.trans (closed.receiver s _) (closed.sameRun ((State.raise_same _ _).sameRun.trans (truncateFrame_sameRun _ _)))

theorem endVerify : R s (endVerify s) := by
  unfold Machine.endVerify
  split
  · exact closed.trans (closed.receiver s _) (closed.sameRun (State.raise_same _ _).sameRun)
  · exact closed.refl s

theorem takeLockedBoundary : R s (takeLockedBoundary s) := by
  unfold Machine.takeLockedBoundary
  split
  · split
    · exact closed.receiver s _
    · exact closed.loseLock s
  · exact closed.refl s

theorem judgeLocked (h : BitVec 64) : R s (judgeLocked h s) := by
  unfold Machine.judgeLocked
  split
  · unfold takeGoodHeader
    split <;> exact closed.receiver s _
  · unfold takeBadHeader
    dsimp only
    split
    · exact closed.trans (closed.receiver s _) (closed.loseLock _)
    · split <;> exact closed.receiver s _

theorem takeLockedHeader : R s (takeLockedHeader s) := by
  unfold Machine.takeLockedHeader
  split
  · split
    · exact closed.trans (closed.receiver s _) (closed.judgeLocked _ _)
    · exact closed.refl s
  · exact closed.refl s

theorem takePacket (between : List NoticeStep) : R s (takePacket between s) := by
  unfold Machine.takePacket
  split
  · exact closed.refl s
  · split
    · split
      · unfold completePacket
        split
        · exact closed.trans (closed.receiver s _) (closed.passPacket _ _ _ _)
        · exact closed.receiver s _
      · exact closed.refl s
    · exact closed.refl s

theorem expireGap : R s (expireGap s) := by
  unfold Machine.expireGap
  split
  · split
    · exact closed.trans (closed.timebase s _) (closed.sameRun (truncateFrame_sameRun _ _))
    · exact closed.refl s
  · exact closed.refl s


end State.ClosedOnLink

/-- The events on the link, and the gap deadline. -/
def onLink : Instr → Bool
  | .alignmentWordMatch _ _ | .verifyHeader _ | .verifyBoundary _ | .verifyExtentEnd | .lockedBoundary _ | .lockedHeader _
  | .boundarySearch _ | .packetComplete _ | .gapTimeout => true
  | _ => false

theorem exec_onLink {R : State → State → Prop} (closed : State.ClosedOnLink R) (s : State) {c : Instr} (h : onLink c = true) :
    ∃ t, exec c s = .next t ∧ R s t := by
  have received (runs : LaneRuns) : R s (s.receive runs) := closed.receiver s _
  cases c with
  | alignmentWordMatch lane run => exact ⟨_, rfl, closed.trans (received _) (closed.receiver _ _)⟩
  | verifyHeader runs | verifyBoundary runs | boundarySearch runs =>
    exact ⟨_, rfl, closed.trans (received runs) (closed.receiver _ _)⟩
  | verifyExtentEnd => exact ⟨_, rfl, closed.endVerify s⟩
  | lockedBoundary runs => exact ⟨_, rfl, closed.trans (received runs) (closed.takeLockedBoundary _)⟩
  | lockedHeader runs => exact ⟨_, rfl, closed.trans (received runs) (closed.takeLockedHeader _)⟩
  | packetComplete last => exact ⟨_, rfl, closed.trans (received last.runs) (closed.takePacket _ _)⟩
  | gapTimeout => exact ⟨_, rfl, closed.expireGap s⟩
  | _ => exact absurd h (by simp [onLink])

/-! ### The queue of commands and the enables -/

/-- The commands that wait, and the enables, are as they were. -/
structure State.KeepsControl (s t : State) : Prop where
  pending : t.pending = s.pending
  enables : t.attention.enables = s.attention.enables

namespace State.KeepsControl

theorem refl (s : State) : s.KeepsControl s := ⟨rfl, rfl⟩

theorem trans {s t u : State} (h : s.KeepsControl t) (g : t.KeepsControl u) : s.KeepsControl u :=
  ⟨g.pending.trans h.pending, g.enables.trans h.enables⟩

theorem after {s t u : State} (g : t.KeepsControl u) (pending : t.pending = s.pending)
    (enables : t.attention.enables = s.attention.enables) : s.KeepsControl u :=
  ⟨g.pending.trans pending, g.enables.trans enables⟩

theorem of_event {s t : State} (h : s.SameEvent t) : s.KeepsControl t := ⟨h.pending, h.enables⟩

theorem of_sameRun {s t : State} (h : s.SameRun t) : s.KeepsControl t := of_event h.sameEvent

theorem closedOnLink : State.ClosedOnLink State.KeepsControl where
  refl := refl
  trans := trans
  sameRun := of_sameRun
  receiver := fun _ _ => ⟨rfl, rfl⟩
  memoryStep := fun s x => of_event (takeMemoryStep_same s x).sameEvent
  timebase := fun _ _ => ⟨rfl, rfl⟩

end State.KeepsControl

open State.KeepsControl (refl of_event of_sameRun)

variable (s : State) {c : Instr}

theorem State.LeavesOrFaults.keepsControl {s t : State} (h : s.LeavesOrFaults t) : s.KeepsControl t := by
  rcases h with same | ⟨u, same, rfl⟩
  · exact of_event same.sameEvent
  · exact (of_event same.sameEvent).trans ⟨rfl, rfl⟩

theorem failStart_keepsControl (q : Word) (r : Reason) (v : Byte) : s.KeepsControl (failStart q r v s) :=
  (of_sameRun (reportRejection_sameRun s q r v)).trans ⟨rfl, rfl⟩

theorem linkWordAnswered_keepsControl (x : ReadAnswer 32) : s.KeepsControl (linkWordAnswered x s) := by
  unfold linkWordAnswered
  split
  · exact refl s
  · split
    · exact ⟨rfl, rfl⟩
    · split
      · exact ⟨State.issue_pending _ _ _, by rw [State.issue_attention]⟩
      · exact failStart_keepsControl s _ _ _

theorem poolTableAnswered_keepsControl (x : ReadAnswer 512) : s.KeepsControl (poolTableAnswered x s) := by
  unfold poolTableAnswered
  split
  · exact refl s
  · split
    · exact ⟨rfl, rfl⟩
    · split
      · refine .trans ?_ (of_sameRun (readSelector_sameRun _ _))
        exact ⟨rfl, rfl⟩
      · exact failStart_keepsControl s _ _ _

theorem startSelectorAnswered_keepsControl (x : ReadAnswer 64) : s.KeepsControl (startSelectorAnswered x s) := by
  unfold startSelectorAnswered
  split
  · exact ⟨rfl, rfl⟩
  · split
    · exact ⟨rfl, rfl⟩
    · split
      · exact of_sameRun (readPage_sameRun s _ _)
      · exact failStart_keepsControl s _ _ _

theorem startPageAnswered_keepsControl (x : ReadAnswer 8192) : s.KeepsControl (startPageAnswered x s) := by
  unfold startPageAnswered
  split
  · exact ⟨rfl, rfl⟩
  · split
    · exact (of_sameRun (adoptPlan_sameRun s _ _)).trans ⟨rfl, rfl⟩
    · exact failStart_keepsControl s _ _ _

theorem adoptionWordAnswered_keepsControl (x : WriteAnswer) : s.KeepsControl (adoptionWordAnswered x s) := by
  unfold adoptionWordAnswered
  split
  · exact ⟨rfl, rfl⟩
  · split
    · exact refl s
    · split <;> exact ⟨rfl, rfl⟩

theorem State.answered_keepsControl {α : Type} {pick : PortRole → Option α} {deliver : α → State → State} (tag : Nat)
    (h : ∀ owner (t : State), t.KeepsControl (deliver owner t)) : s.KeepsControl (s.answered tag pick deliver) :=
  s.answered_induct s.KeepsControl (refl s) ⟨rfl, rfl⟩ fun owner _ => (h owner _).after rfl rfl

theorem State.responded_keepsControl {α : Type} {pick : WriteRole → Option α} {deliver : α → State → State} (tag : Nat)
    (h : ∀ owner (t : State), t.KeepsControl (deliver owner t)) : s.KeepsControl (s.responded tag pick deliver) :=
  s.responded_induct s.KeepsControl (refl s) ⟨rfl, rfl⟩ fun owner _ => (h owner _).after rfl rfl

theorem markDiscard_keepsControl : s.KeepsControl (markDiscard s) := by
  unfold markDiscard
  split <;> exact ⟨rfl, rfl⟩

theorem takeAbort_keepsControl : s.KeepsControl (takeAbort s) := by
  have accepted : s.KeepsControl (markDiscard (((s.record .accepted).setRunState .aborting).setProgress .none)) :=
    (markDiscard_keepsControl _).after rfl rfl
  have passed (t : State) : t.KeepsControl (abortBlocks t) :=
    of_sameRun ((t.eachView_same _ fun k u => abortChannel_same u _ k).sameRun.trans (truncateFrame_sameRun _ _))
  unfold takeAbort
  dsimp only
  split
  · exact accepted
  · exact accepted.trans (passed _)
  · exact accepted.trans (passed _)
  all_goals exact ⟨rfl, rfl⟩

/-- No write to RUN takes a command from the queue or changes an enable, a soft reset among them. -/
theorem writeRun_keepsControl (code : Word) : s.KeepsControl (writeRun code s) := by
  unfold writeRun
  split
  · unfold takeStart
    split
    · exact ⟨rfl, rfl⟩
    · split
      · exact ⟨rfl, rfl⟩
      · exact ⟨State.issue_pending _ _ _, by rw [State.issue_attention]; rfl⟩
  · split
    · unfold takeStop
      split
      · exact (markDiscard_keepsControl _).after rfl rfl
      · exact ⟨rfl, rfl⟩
    · split
      · exact takeAbort_keepsControl s
      · split
        · unfold takeClearFault
          split
          · exact ⟨rfl, rfl⟩
          · split <;> exact ⟨rfl, rfl⟩
        · split <;> exact ⟨rfl, rfl⟩

theorem writeAnchorLo_keepsControl (value : Word) : s.KeepsControl (writeAnchorLo value s) := by
  unfold writeAnchorLo
  split <;> exact ⟨rfl, rfl⟩

theorem writeAnchorHi_keepsControl (value : Word) : s.KeepsControl (writeAnchorHi value s) := by
  unfold writeAnchorHi
  split <;> exact ⟨rfl, rfl⟩

theorem writeRegister_pending (offset : Nat) (value : Word) : (writeRegister offset value s).pending = s.pending := by
  unfold writeRegister
  split
  · exact (writeRun_keepsControl s value).pending
  · split
    · rfl
    · split
      · rfl
      · split
        · exact (writeAnchorLo_keepsControl s value).pending
        · split
          · exact (writeAnchorHi_keepsControl s value).pending
          · rfl

theorem writeWindow_pending (offset width : Nat) (value : DWord) : (writeWindow offset width value s).pending = s.pending := by
  unfold writeWindow
  split
  · exact writeRegister_pending s _ _
  · split
    · exact (writeRegister_pending _ _ _).trans (writeRegister_pending s _ _)
    · rfl

theorem reachStopped_keepsControl : s.KeepsControl (reachStopped s) := by
  unfold reachStopped
  split <;> exact ⟨rfl, rfl⟩

/-- Every command keeps the queue; and the enables too, as its row describes it and but for the two kinds that set them. -/
theorem exec_keepsControl (c : Instr) :
    ∃ t, exec c s = .next t ∧ t.pending = s.pending
      ∧ (c.wellFormed = true → c ≠ .powerOnReset → c ≠ .portReset → (∀ v, c ≠ .attentionEnable v) →
          t.attention.enables = s.attention.enables) := by
  have whole {t : State} (run : exec c s = .next t) (h : s.KeepsControl t) :
      ∃ t, exec c s = .next t ∧ t.pending = s.pending
        ∧ (c.wellFormed = true → c ≠ .powerOnReset → c ≠ .portReset → (∀ v, c ≠ .attentionEnable v) →
            t.attention.enables = s.attention.enables) :=
    ⟨t, run, h.pending, fun _ _ _ _ => h.enables⟩
  cases c with
  | start | stop | abort | clearFault | reset | unknownCode => exact whole rfl (writeRun_keepsControl s _)
  | attention value => exact whole rfl ⟨rfl, rfl⟩
  | attentionEnable value => exact ⟨_, rfl, rfl, fun _ _ _ other => absurd rfl (other value)⟩
  | anchorLo value => exact whole rfl (writeAnchorLo_keepsControl s value)
  | anchorHi value => exact whole rfl (writeAnchorHi_keepsControl s value)
  | ignoredRegisterWrite offset width value =>
    refine ⟨_, rfl, writeWindow_pending s _ _ _, fun ignored _ _ _ => ?_⟩
    rw [writeWindow_ignored s ignored]
  | powerOnReset => exact ⟨_, rfl, rfl, fun _ other => absurd rfl other⟩
  | portReset => exact ⟨_, rfl, rfl, fun _ _ other => absurd rfl other⟩
  | alignmentWordMatch | verifyHeader | verifyBoundary | verifyExtentEnd | lockedBoundary | lockedHeader | boundarySearch
  | packetComplete | gapTimeout =>
    exact (exec_onLink State.KeepsControl.closedOnLink s (by rfl)).elim fun _ ⟨next, kept⟩ => whole next kept
  | linkWordAnswer tag x => exact whole rfl (s.answered_keepsControl tag fun _ t => linkWordAnswered_keepsControl t x)
  | poolTableAnswer tag x => exact whole rfl (s.answered_keepsControl tag fun _ t => poolTableAnswered_keepsControl t x)
  | startSelectorAnswer tag x => exact whole rfl (s.answered_keepsControl tag fun _ t => startSelectorAnswered_keepsControl t x)
  | startPageAnswer tag x => exact whole rfl (s.answered_keepsControl tag fun _ t => startPageAnswered_keepsControl t x)
  | selectorAnswer tag x => exact whole rfl (s.answered_keepsControl tag fun _ t => of_sameRun (selectorAnswered_sameRun t x))
  | pageAnswer tag x => exact whole rfl (s.answered_keepsControl tag fun _ t => of_sameRun (pageAnswered_sameRun t x))
  | adoptionWordResponse tag x => exact whole rfl (s.responded_keepsControl tag fun _ t => adoptionWordAnswered_keepsControl t x)
  | runStopped => exact whole rfl (reachStopped_keepsControl s)
  | linkTallyResponse | claimServiceStart | slotReadAnswer | claimAnswer | refusalAnswer | firstWriteAnswer | returnAnswer
  | admission | rowWriteResponse | metadataCopyResponse | sealingEntry | frameRecordResponse | sealingAnswer
  | viewTallyResponse =>
    exact (exec_memoryPath s (by rfl)).elim fun _ ⟨next, path⟩ => whole next path.keepsControl

/-! ### Transactions in STOPPED and FAULT -/

/-- From STOPPED or FAULT nothing is issued: what is outstanding was outstanding, and the tag count stands. -/
structure State.Silent (s t : State) : Prop where
  state : t.run.state = s.run.state
  reads : s.halted = true → t.port.entries.Sublist s.port.entries
  writes : s.halted = true → t.queue.entries.Sublist s.queue.entries
  tags : s.halted = true → t.port.nextTag = s.port.nextTag

namespace State.Silent

theorem of_eq {s t : State} (state : t.run.state = s.run.state) (port : t.port = s.port) (entries : t.queue.entries = s.queue.entries) :
    s.Silent t :=
  ⟨state, fun _ => by rw [port], fun _ => by rw [entries], fun _ => by rw [port]⟩

theorem refl (s : State) : s.Silent s := of_eq rfl rfl rfl

theorem trans {s t u : State} (h : s.Silent t) (g : t.Silent u) : s.Silent u := by
  have carried (halted : s.halted = true) : t.halted = true := by simpa [State.halted, h.state] using halted
  exact ⟨g.state.trans h.state, fun halted => (g.reads (carried halted)).trans (h.reads halted),
    fun halted => (g.writes (carried halted)).trans (h.writes halted),
    fun halted => (g.tags (carried halted)).trans (h.tags halted)⟩

theorem of_sameRun {s t : State} (h : s.SameRun t) : s.Silent t :=
  ⟨by rw [h.run], fun halted => by rw [h.quiet halted], fun _ => by rw [h.entries], fun halted => by rw [h.quiet halted]⟩

theorem dropPort (s : State) (tag : Nat) : s.Silent (s.dropPort tag) :=
  ⟨rfl, fun _ => List.filter_sublist, fun _ => List.Sublist.refl _, fun _ => rfl⟩

theorem dropWrite (s : State) (tag : Nat) : s.Silent (s.dropWrite tag) :=
  ⟨rfl, fun _ => List.Sublist.refl _, fun _ => List.filter_sublist, fun _ => rfl⟩

theorem answered {s : State} {α : Type} (halted : s.halted = true) (tag : Nat) (pick : PortRole → Option α)
    (deliver : α → State → State) : s.Silent (s.answered tag pick deliver) := by
  rcases s.answered_halted_cases halted tag pick deliver with e | e <;> rw [e]
  · exact refl s
  · exact dropPort s tag

theorem responded {s : State} {α : Type} (halted : s.halted = true) (tag : Nat) (pick : WriteRole → Option α)
    (deliver : α → State → State) : s.Silent (s.responded tag pick deliver) := by
  rcases s.responded_halted_cases halted tag pick deliver with e | e <;> rw [e]
  · exact refl s
  · exact dropWrite s tag

theorem performStep {s : State} (halted : s.halted = true) (x : MemoryStep) : s.Silent (performStep x s) := by
  cases x with
  | admission =>
    rw [Machine.performStep, admitOne_halted s halted]
    exact refl s
  | claimServiceStart p => exact of_sameRun (startService_same s p).sameRun
  | sealingEntry k => exact of_sameRun (enterSealing_same s k).sameRun
  | rowWriteResponse | metadataCopyResponse | frameRecordResponse | viewTallyResponse | linkTallyResponse
  | adoptionWordResponse => exact responded halted _ _ _
  | slotReadAnswer | claimAnswer | refusalAnswer | firstWriteAnswer | returnAnswer | sealingAnswer => exact answered halted _ _ _

theorem takeMemoryStep (s : State) (x : MemoryStep) : s.Silent (takeMemoryStep x s) := by
  have kept := (takeMemoryStep_same s x).run
  cases halted : s.halted with
  | true =>
    unfold Machine.takeMemoryStep
    split
    · exact refl s
    · exact performStep halted x
  | false => exact ⟨by rw [kept], fun h => by simp [halted] at h, fun h => by simp [halted] at h, fun h => by simp [halted] at h⟩

theorem closedOnLink : State.ClosedOnLink State.Silent where
  refl := refl
  trans := trans
  sameRun := of_sameRun
  receiver := fun _ _ => of_eq rfl rfl rfl
  memoryStep := takeMemoryStep
  timebase := fun _ _ => of_eq rfl rfl rfl

end State.Silent

/-- What the last clause of `AnswersDiscarded` says of a command. -/
def State.IssuesNothing (s t : State) : Prop :=
  (∀ e ∈ t.port.entries, e ∈ s.port.entries) ∧ (∀ e ∈ t.queue.entries, e ∈ s.queue.entries)
    ∧ t.port.nextTag = s.port.nextTag

theorem State.Silent.issuesNothing {s t : State} (h : s.Silent t) (halted : s.halted = true) : s.IssuesNothing t :=
  ⟨fun _ he => (h.reads halted).subset he, fun _ he => (h.writes halted).subset he, h.tags halted⟩

theorem State.IssuesNothing.of_eq {s t : State} (port : t.port = s.port) (queue : t.queue = s.queue) : s.IssuesNothing t := by
  unfold State.IssuesNothing
  rw [port, queue]
  exact ⟨fun _ he => he, fun _ he => he, rfl⟩

theorem State.IssuesNothing.of_reset (s : State) (anchor : DWord) (enables : BitVec 14) (timebase : DWord) :
    s.IssuesNothing (s.resetTo anchor enables timebase) :=
  ⟨fun _ he => (by cases he), fun _ he => (by cases he), rfl⟩

/-- In STOPPED and FAULT no command but START issues anything. -/
theorem exec_halted_issuesNothing (halted : s.halted = true) (wellFormed : c.wellFormed = true) (notStart : c ≠ .start) :
    ∃ t, exec c s = .next t ∧ s.IssuesNothing t := by
  have silent {t : State} (run : exec c s = .next t) (h : s.Silent t) : ∃ t, exec c s = .next t ∧ s.IssuesNothing t :=
    ⟨t, run, h.issuesNothing halted⟩
  have rests : s.run.state = .stopped ∨ s.run.state = .fault := by simpa [State.halted] using halted
  cases c with
  | start => exact absurd rfl notStart
  | stop | abort =>
    refine ⟨_, exec_refusedState s (by simp) ?_, .of_eq rfl rfl⟩
    rcases rests with h | h <;> rw [h] <;> rfl
  | clearFault =>
    refine ⟨_, exec_clearFault s, ?_⟩
    unfold takeClearFault
    split
    · exact .of_eq rfl rfl
    · split <;> exact .of_eq rfl rfl
  | reset | powerOnReset | portReset => exact ⟨_, rfl, .of_reset s _ _ _⟩
  | unknownCode code => exact ⟨_, exec_unknownCode s wellFormed, .of_eq rfl rfl⟩
  | attention value | attentionEnable value => exact ⟨_, rfl, .of_eq rfl rfl⟩
  | anchorLo value =>
    refine ⟨writeAnchorLo value s, rfl, ?_⟩
    unfold writeAnchorLo
    split <;> exact .of_eq rfl rfl
  | anchorHi value =>
    refine ⟨writeAnchorHi value s, rfl, ?_⟩
    unfold writeAnchorHi
    split <;> exact .of_eq rfl rfl
  | ignoredRegisterWrite offset width value =>
    exact ⟨s, congrArg _ (writeWindow_ignored s wellFormed value), .of_eq rfl rfl⟩
  | alignmentWordMatch | verifyHeader | verifyBoundary | verifyExtentEnd | lockedBoundary | lockedHeader | boundarySearch
  | packetComplete | gapTimeout =>
    exact (exec_onLink State.Silent.closedOnLink s (by rfl)).elim fun _ ⟨next, kept⟩ => silent next kept
  | admission => exact ⟨s, congrArg _ (admitOne_halted s halted), .of_eq rfl rfl⟩
  | claimServiceStart pool => exact silent rfl (.of_sameRun (startService_same s pool).sameRun)
  | sealingEntry view => exact silent rfl (.of_sameRun (enterSealing_same s view).sameRun)
  | runStopped =>
    refine ⟨s, congrArg _ (reachStopped_elsewhere s ?_), .of_eq rfl rfl⟩
    rcases rests with h | h <;> simp [h]
  | linkWordAnswer | poolTableAnswer | startSelectorAnswer | startPageAnswer | selectorAnswer | pageAnswer
  | slotReadAnswer | claimAnswer | refusalAnswer | firstWriteAnswer | returnAnswer | sealingAnswer =>
    exact silent rfl (.answered halted _ _ _)
  | adoptionWordResponse | linkTallyResponse | rowWriteResponse | metadataCopyResponse | frameRecordResponse
  | viewTallyResponse => exact silent rfl (.responded halted _ _ _)

/-! ### Answers that no transaction awaits -/

/-- An answer command is discarded unless a transaction of its kind has its tag. -/
theorem exec_answer_unmatched {tag : Nat} (answers : ∃ r, answersTo c r = some tag)
    (unmatched : ∀ r, answersTo c r = some tag → ¬s.awaits tag r) : exec c s = .next s := by
  have discarded {α : Type} {pick : PortRole → Option α} (deliver : α → State → State)
      (kind : ∀ r, answersTo c r = (pick r).map fun _ => tag) : s.answered tag pick deliver = s := by
    refine s.answered_unmatched deliver (Option.eq_none_iff_forall_ne_some.mpr fun owner owned => ?_)
    obtain ⟨e, found, picked⟩ := Option.bind_eq_some_iff.mp owned
    exact unmatched e.role (by rw [kind, picked]; rfl) (by rw [State.awaits, found]; rfl)
  obtain ⟨r, hr⟩ := answers
  unfold answersTo at hr
  split at hr <;> cases hr
  all_goals
    exact congrArg _ (discarded _ fun r => by cases r <;> rfl)

theorem exec_response_unmatched {tag : Nat} (responds : ∃ r, respondsTo c r = some tag)
    (unmatched : ∀ r, respondsTo c r = some tag → ¬s.awaitsWrite tag r) : exec c s = .next s := by
  have discarded {α : Type} {pick : WriteRole → Option α} (deliver : α → State → State)
      (kind : ∀ r, respondsTo c r = (pick r).map fun _ => tag) : s.responded tag pick deliver = s := by
    refine s.responded_unmatched deliver (Option.eq_none_iff_forall_ne_some.mpr fun owner owned => ?_)
    obtain ⟨e, found, picked⟩ := Option.bind_eq_some_iff.mp owned
    exact unmatched e.role (by rw [kind, picked]; rfl) (by rw [State.awaitsWrite, found]; rfl)
  obtain ⟨r, hr⟩ := responds
  unfold respondsTo at hr
  split at hr <;> cases hr
  all_goals
    exact congrArg _ (discarded _ fun r => by cases r <;> rfl)

end Sys2Proof.Machine

namespace Sys2Proof
open Sys2Proof.Machine

/-- Settles O3: every command is total, keeps the queue of commands, and but for the writes of the enables and the hard resets the
enables. -/
theorem commandsKeepQueueAndEnables : Obligations.CommandsKeepQueueAndEnables := fun c s => exec_keepsControl s c

/-- Settles O41: what no transaction awaits changes nothing; in STOPPED and FAULT what one awaits counts it off, and nothing is issued
by any command but START. -/
theorem answersDiscarded : Obligations.AnswersDiscarded := by
  have rests {s : State} (h : s.run.state = .stopped ∨ s.run.state = .fault) : s.halted = true := by
    simpa [State.halted] using h
  refine ⟨fun s c tag => exec_answer_unmatched s, fun s c tag => exec_response_unmatched s,
    fun s c tag r halted answers => exec_answer_halted s answers (rests halted),
    fun s c tag r halted responds => exec_response_halted s responds (rests halted), ?_⟩
  intro s t c halted wellFormed notStart run
  obtain ⟨u, next, nothing⟩ := exec_halted_issuesNothing s (rests halted) wellFormed notStart
  cases next.symm.trans run
  exact nothing

end Sys2Proof
end

section
/-! What the tracker's notices and an ABORT leave alone: they raise nothing, leave the scanners, ask for nothing, and leave every channel
that is neither CLAIMING nor ACTIVE (06 Tables 6-1 and 6-2). -/

namespace Sys2Proof.Machine

/-- Besides what `SameBlocks` keeps, nothing is raised, the scanners stand, and no request joins those that wait. -/
structure State.Withdraws (s t : State) : Prop where
  same : s.SameBlocks t
  attention : t.attention = s.attention
  scanners : t.scanners = s.scanners
  requests : t.queue.requests.Sublist s.queue.requests

namespace State.Withdraws

variable (s : State)

theorem refl : s.Withdraws s := ⟨.refl s, rfl, rfl, .refl _⟩

theorem trans {s t u : State} (h : s.Withdraws t) (g : t.Withdraws u) : s.Withdraws u :=
  ⟨h.same.trans g.same, g.attention.trans h.attention, g.scanners.trans h.scanners, g.requests.trans h.requests⟩

theorem setFrame (k : ViewId) (v : ViewFrame) : s.Withdraws (s.setFrame k v) := ⟨s.setFrame_same k v, rfl, rfl, .refl _⟩

theorem moveChannel (k : ViewId) (c : ChannelState) (v : ViewFrame) : s.Withdraws (s.moveChannel k c v) :=
  ⟨s.moveChannel_same k c v, rfl, rfl, .refl _⟩

theorem withdraw (r : Request) : s.Withdraws (s.withdraw r) := ⟨s.withdraw_same r, rfl, rfl, List.filter_sublist⟩

theorem exchangeSlot (r : PortRole) (x : Slot) (n : SlotState) : s.Withdraws (s.exchangeSlot r x n) :=
  ⟨s.exchangeSlot_same r x n, s.issue_attention _ _, s.issue_scanners _ _, by rw [State.exchangeSlot, State.issue_queue]⟩

theorem withFrame {s : State} {k : ViewId} {f : ViewFrame → State} (h : ∀ v, s.Withdraws (f v)) : s.Withdraws (s.withFrame k f) :=
  s.withFrame_induct s.Withdraws (refl s) h

theorem issueFirstWrite (k : ViewId) : s.Withdraws (issueFirstWrite k s) := by
  refine withFrame fun v => ?_
  split
  · exact refl s
  · split
    · exact (setFrame s _ _).trans (exchangeSlot _ _ _ _)
    · exact refl s

theorem enterFlushing (k : ViewId) : s.Withdraws (enterFlushing k s) := by
  refine withFrame fun v => ?_
  split
  · exact moveChannel s _ _ _
  · exact refl s

theorem advanceActive (k : ViewId) : s.Withdraws (advanceActive k s) := (issueFirstWrite s k).trans (enterFlushing _ k)

theorem returnSlot (k : ViewId) (v : ViewFrame) : s.Withdraws (returnSlot k v s) := by
  unfold Machine.returnSlot
  dsimp only
  split
  · exact (moveChannel s _ _ _).trans (exchangeSlot _ _ _ _)
  · exact moveChannel s _ _ _

theorem abandonFrame (k : ViewId) (c : OutcomeCause) (time : DWord) : s.Withdraws (abandonFrame k c time s) := by
  refine withFrame fun v => ?_
  have flushed : s.Withdraws ((s.moveChannel k .flushing (v.mark c time).withdrawn).withdraw (.metadataCopy k)) :=
    (moveChannel s _ _ _).trans (withdraw _ _)
  split
  · exact refl s
  · split
    · exact moveChannel s _ _ _
    · exact returnSlot s _ _
    · exact moveChannel s _ _ _
    · exact flushed
    · exact flushed
    all_goals exact refl s

theorem cancelCopy (b : BankId) (k : ViewId) : s.Withdraws (cancelCopy b k s) := by
  refine withFrame fun v => ?_
  split
  · exact (setFrame s _ _).trans (withdraw _ _)
  · exact refl s

theorem eachView {f : ViewId → State → State} (h : ∀ k (t : State), t.Withdraws (f k t)) : s.Withdraws (s.eachView f) := by
  suffices ∀ (l : List ViewId) (t : State), t.Withdraws (l.foldl (fun s k => f k s) t) from this _ s
  intro l
  induction l with
  | nil => exact refl
  | cons k l ih => exact fun t => (h k t).trans (ih _)

/-- A withdrawn request does not come back. -/
theorem not_waitingFor {s t : State} (h : s.Withdraws t) {r : Request} (notWaiting : s.waitingFor r = false) :
    t.waitingFor r = false := by
  unfold State.waitingFor at notWaiting ⊢
  rw [List.any_eq_false] at notWaiting ⊢
  exact fun q hq => notWaiting q (h.requests.subset hq)

end State.Withdraws

/-! ### Notices -/

/-- What a notice of the tracker, or an ABORT, does to the part: it withdraws, and it leaves the channels that are neither CLAIMING nor
ACTIVE. -/
structure State.Noticed (s t : State) : Prop where
  withdraws : s.Withdraws t
  kept : ∀ k : ViewId, ¬(s.channel k).opened → t.channel k = s.channel k

namespace State.Noticed

variable (s : State)

theorem refl : s.Noticed s := ⟨.refl s, fun _ _ => rfl⟩

theorem trans {s t u : State} (h : s.Noticed t) (g : t.Noticed u) : s.Noticed u :=
  ⟨h.withdraws.trans g.withdraws, fun k closed => (g.kept k (by rw [h.kept k closed]; exact closed)).trans (h.kept k closed)⟩

/-- A notice to one channel: it withdraws, leaves the other channels, and does nothing unless the channel is CLAIMING or ACTIVE. -/
theorem of_one {s t : State} (k : ViewId) (withdraws : s.Withdraws t) (others : ∀ j, j ≠ k → t.channel j = s.channel j)
    (ignored : ¬(s.channel k).opened → t = s) : s.Noticed t := by
  refine ⟨withdraws, fun j closed => ?_⟩
  by_cases same : j = k
  · subst same
    rw [ignored closed]
  · exact others j same

theorem eachView {f : ViewId → State → State} (h : ∀ k (t : State), t.Noticed (f k t)) : s.Noticed (s.eachView f) := by
  suffices ∀ (l : List ViewId) (t : State), t.Noticed (l.foldl (fun s k => f k s) t) from this _ s
  intro l
  induction l with
  | nil => exact refl
  | cons k l ih => exact fun t => (h k t).trans (ih _)

end State.Noticed

variable (s : State)

theorem Channel.producing_iff (c : Channel) : c.producing = true ↔ c.opened := by simp [Channel.producing, Channel.opened]

theorem Channel.inProduction_iff (c : Channel) (v : ViewFrame) : c.inProduction v = true ↔ c.produces v := by
  simp [Channel.inProduction, Channel.producing_iff, Channel.produces, and_assoc]

/-- What a channel does with its view frame only when it is CLAIMING or ACTIVE, it does not do otherwise. -/
theorem State.withFrame_ignored {k : ViewId} {f : ViewFrame → State} (h : ∀ v, f v = s) : s.withFrame k f = s :=
  s.withFrame_induct (fun t => t = s) rfl h

theorem metadataNotice_noticed (count : Nat) (truncated : Bool) (k : ViewId) : s.Noticed (metadataNotice count truncated k s) := by
  refine .of_one k (.withFrame fun v => ?_) (fun j other => metadataNotice_other s other _ _)
    fun closed => s.withFrame_ignored fun v => ?_
  · split
    · exact (State.Withdraws.setFrame s _ _).trans (.advanceActive _ _)
    · exact .refl s
  · simp [mt (s.channel k).producing_iff.mp closed]

theorem finalizeGroup_withdraws (time : DWord) (k : ViewId) (v : ViewFrame) : s.Withdraws (finalizeGroup time k v s) := by
  unfold finalizeGroup
  dsimp only
  split
  · split <;> exact (State.Withdraws.setFrame s _ _).trans (.advanceActive _ _)
  · exact (State.Withdraws.setFrame s _ _).trans (.abandonFrame _ _ _ _)

theorem rowNotice_noticed (time : DWord) (row : Nat) (payload : Option (List Byte)) (k : ViewId) :
    s.Noticed (rowNotice time row payload k s) := by
  refine .of_one k (.withFrame fun v => ?_) (fun j other => rowNotice_other s other _ _ _)
    fun closed => s.withFrame_ignored fun v => if_neg fun production => closed ((Channel.inProduction_iff _ v).mp production).1
  split
  · split
    · exact .refl s
    · split
      · exact (State.Withdraws.setFrame s _ _).trans (.abandonFrame _ _ _ _)
      · split
        · exact (State.Withdraws.setFrame s _ _).trans (finalizeGroup_withdraws _ _ _ _)
        · exact .setFrame s _ _
  · exact .refl s

theorem truncationNotice_noticed (c : OutcomeCause) (time : DWord) (k : ViewId) : s.Noticed (truncationNotice c time k s) := by
  refine .of_one k (.withFrame fun v => ?_) (fun j other => truncationNotice_other s other _ _)
    fun closed => s.withFrame_ignored fun v => if_neg fun production => closed ((Channel.inProduction_iff _ v).mp production).1
  split
  · exact .abandonFrame s _ _ _
  · exact .refl s

theorem abortChannel_noticed (time : DWord) (k : ViewId) : s.Noticed (abortChannel time k s) := by
  refine .of_one k ?_ (fun j other => abortChannel_other s other _) fun closed => if_neg fun opened => closed ?_
  · unfold abortChannel
    split
    · exact .abandonFrame s _ _ _
    · exact .refl s
  · exact (Channel.producing_iff _).mp opened

theorem closeMetadata_noticed : s.Noticed (closeMetadata s) := by
  unfold closeMetadata
  split
  · exact .eachView s fun k t => metadataNotice_noticed t _ _ k
  · exact .refl s

theorem resolveRow_noticed (payload : Option (List Byte)) (row : Nat) : s.Noticed (resolveRow [] payload row s) :=
  .eachView s fun k t => rowNotice_noticed t _ _ _ k

theorem resolveMissing_noticed (first count : Nat) : s.Noticed (resolveMissing [] first count s) := by
  unfold resolveMissing
  generalize List.range' first count = rows
  induction rows generalizing s with
  | nil => exact .refl s
  | cons row rows ih =>
    rw [List.foldl_cons]
    exact (resolveRow_noticed s none row).trans (ih _)

/-! ### What becomes of one channel -/

/-- A notice to every channel makes of channel k what it makes of it alone, in a state that the notices to others have left. -/
theorem State.eachView_noticed {f : ViewId → State → State} (h : ∀ k (t : State), t.Withdraws (f k t))
    (others : ∀ (i j : ViewId) (t : State), j ≠ i → (f i t).channel j = t.channel j) (k : ViewId) :
    ∃ t, s.Withdraws t ∧ t.channel k = s.channel k ∧ (f k t).Withdraws (s.eachView f)
      ∧ (s.eachView f).channel k = (f k t).channel k :=
  s.eachView_channel f State.Withdraws State.Withdraws.refl (fun _ _ _ => State.Withdraws.trans) h others k

/-! ### The end of a frame, and truncation -/

/-- The end of a frame asks for the link tally write; in RUNNING with the fetch state QUIET the selector read is issued. -/
theorem announceEnd_spec :
    (announceEnd s).waitingFor .linkTally = true ∧ (announceEnd s).attention = s.attention ∧ (announceEnd s).scanners = s.scanners
      ∧ (announceEnd s).channels = s.channels ∧ (announceEnd s).tracker = s.tracker := by
  have asked := s.waitingFor_ask .linkTally rfl
  unfold announceEnd frameEndFetch
  split
  · simp only [readSelector, State.waitingFor, State.issue_queue, State.issue_attention, State.issue_scanners, State.issue_channels,
      State.issue_tracker]
    exact ⟨asked, by simp, by simp, by simp, by simp⟩
  · exact ⟨asked, by simp, by simp, by simp, by simp⟩

/-- Out of frame a truncation changes nothing; in frame it is made of notices, a move of the tracker and the end of the frame. -/
theorem truncateFrame_spec (c : OutcomeCause) :
    (truncateFrame c s).attention = s.attention ∧ (truncateFrame c s).scanners = s.scanners
      ∧ (∀ k, ¬(s.channel k).opened → (truncateFrame c s).channel k = s.channel k)
      ∧ (s.tracker.state ≠ .idle → (truncateFrame c s).waitingFor .linkTally = true) := by
  unfold truncateFrame
  split
  · next idle => exact ⟨rfl, rfl, fun _ _ => rfl, fun inFrame => absurd idle inFrame⟩
  · have closed := closeMetadata_noticed s
    generalize closeMetadata s = t at closed ⊢
    dsimp only
    generalize moved : t.setTracker _ = u
    have told := State.Noticed.eachView u fun k x => truncationNotice_noticed x c u.timebase k
    generalize u.eachView _ = w at told ⊢
    obtain ⟨asked, attention, scanners, channels, -⟩ := announceEnd_spec w
    refine ⟨?_, ?_, fun k notOpened => ?_, fun _ => asked⟩
    · rw [attention, told.withdraws.attention, ← moved, State.setTracker_attention, closed.withdraws.attention]
    · rw [scanners, told.withdraws.scanners, ← moved, State.setTracker_scanners, closed.withdraws.scanners]
    · have standing : u.channel k = s.channel k := by rw [← moved, State.channel_setTracker, closed.kept k notOpened]
      rw [State.channel_of_channels channels, told.kept k (by rw [standing]; exact notOpened), standing]

/-! ### Answers delivered in a live run

An answer that a transaction awaits is counted off and reaches the block that asked. -/

section Delivered

variable {s : State} {tag : Nat} (live : s.live)

include live

theorem exec_linkWordAnswer_live (x : ReadAnswer 32) (awaited : s.awaits tag .linkWord) :
    exec (.linkWordAnswer tag x) s = .next (linkWordAnswered x (s.dropPort tag)) :=
  congrArg Host.Outcome.next (s.answered_live (fun _ => linkWordAnswered x) awaited rfl live)

theorem exec_poolTableAnswer_live (x : ReadAnswer 512) (awaited : s.awaits tag .poolTable) :
    exec (.poolTableAnswer tag x) s = .next (poolTableAnswered x (s.dropPort tag)) :=
  congrArg Host.Outcome.next (s.answered_live (fun _ => poolTableAnswered x) awaited rfl live)

theorem exec_startSelectorAnswer_live (x : ReadAnswer 64) (awaited : s.awaits tag .startSelector) :
    exec (.startSelectorAnswer tag x) s = .next (startSelectorAnswered x (s.dropPort tag)) :=
  congrArg Host.Outcome.next (s.answered_live (fun _ => startSelectorAnswered x) awaited rfl live)

theorem exec_startPageAnswer_live (x : ReadAnswer 8192) (awaited : s.awaits tag .startPage) :
    exec (.startPageAnswer tag x) s = .next (startPageAnswered x (s.dropPort tag)) :=
  congrArg Host.Outcome.next (s.answered_live (fun _ => startPageAnswered x) awaited rfl live)

theorem exec_selectorAnswer_live (x : ReadAnswer 64) (awaited : s.awaits tag .selector) :
    exec (.selectorAnswer tag x) s = .next (selectorAnswered x (s.dropPort tag)) :=
  congrArg Host.Outcome.next (s.answered_live (fun _ => selectorAnswered x) awaited rfl live)

theorem exec_pageAnswer_live (x : ReadAnswer 8192) (awaited : s.awaits tag .page) :
    exec (.pageAnswer tag x) s = .next (pageAnswered x (s.dropPort tag)) :=
  congrArg Host.Outcome.next (s.answered_live (fun _ => pageAnswered x) awaited rfl live)

theorem exec_slotReadAnswer_live (x : ReadAnswer 128) {p : PoolId} (awaited : s.awaits tag (.slotRead p)) :
    exec (.slotReadAnswer tag x) s = .next (slotReadAnswered x p (s.dropPort tag)) :=
  congrArg Host.Outcome.next (s.answered_live (slotReadAnswered x) awaited rfl live)

theorem exec_claimAnswer_live (x : CasAnswer) {p : PoolId} (awaited : s.awaits tag (.claim p)) :
    exec (.claimAnswer tag x) s = .next (claimAnswered x p (s.dropPort tag)) :=
  congrArg Host.Outcome.next (s.answered_live (claimAnswered x) awaited rfl live)

theorem exec_refusalAnswer_live (x : CasAnswer) {p : PoolId} (awaited : s.awaits tag (.refusal p)) :
    exec (.refusalAnswer tag x) s = .next (refusalAnswered x p (s.dropPort tag)) :=
  congrArg Host.Outcome.next (s.answered_live (refusalAnswered x) awaited rfl live)

theorem exec_firstWriteAnswer_live (x : CasAnswer) {k : ViewId} (awaited : s.awaits tag (.firstWrite k)) :
    exec (.firstWriteAnswer tag x) s = .next (firstWriteAnswered x k (s.dropPort tag)) :=
  congrArg Host.Outcome.next (s.answered_live (firstWriteAnswered x) awaited rfl live)

theorem exec_returnAnswer_live (x : CasAnswer) {k : ViewId} (awaited : s.awaits tag (.giveBack k)) :
    exec (.returnAnswer tag x) s = .next (returnAnswered x k (s.dropPort tag)) :=
  congrArg Host.Outcome.next (s.answered_live (returnAnswered x) awaited rfl live)

theorem exec_sealingAnswer_live (x : CasAnswer) {k : ViewId} (awaited : s.awaits tag (.sealing k)) :
    exec (.sealingAnswer tag x) s = .next (sealingAnswered x k (s.dropPort tag)) :=
  congrArg Host.Outcome.next (s.answered_live (sealingAnswered x) awaited rfl live)

theorem exec_rowWriteResponse_live (x : WriteAnswer) {k : ViewId} {n i : Nat} (awaited : s.awaitsWrite tag (.row k n i)) :
    exec (.rowWriteResponse tag x) s = .next (rowAnswered x k n i (s.dropWrite tag)) :=
  congrArg Host.Outcome.next (s.responded_live (owner := (k, n, i)) (pick := WriteRole.asRow)
    (fun y => rowAnswered x y.1 y.2.1 y.2.2) awaited rfl live)

theorem exec_metadataCopyResponse_live (x : WriteAnswer) {k : ViewId} {n : Half} (awaited : s.awaitsWrite tag (.metadataCopy k n)) :
    exec (.metadataCopyResponse tag x) s = .next (copyAnswered x k n (s.dropWrite tag)) :=
  congrArg Host.Outcome.next (s.responded_live (owner := (k, n)) (pick := WriteRole.asMetadataCopy)
    (fun y => copyAnswered x y.1 y.2) awaited rfl live)

theorem exec_frameRecordResponse_live (x : WriteAnswer) {k : ViewId} (awaited : s.awaitsWrite tag (.frameRecord k)) :
    exec (.frameRecordResponse tag x) s = .next (frameRecordAnswered x k (s.dropWrite tag)) :=
  congrArg Host.Outcome.next (s.responded_live (frameRecordAnswered x) awaited rfl live)

theorem exec_viewTallyResponse_live (x : WriteAnswer) {k : ViewId} {c : Bool} (awaited : s.awaitsWrite tag (.viewTally k c)) :
    exec (.viewTallyResponse tag x) s = .next (viewTallyAnswered x k c (s.dropWrite tag)) :=
  congrArg Host.Outcome.next (s.responded_live (owner := (k, c)) (pick := WriteRole.asViewTally)
    (fun y => viewTallyAnswered x y.1 y.2) awaited rfl live)

theorem exec_linkTallyResponse_live (x : WriteAnswer) (awaited : s.awaitsWrite tag .linkTally) :
    exec (.linkTallyResponse tag x) s = .next (linkTallyAnswered x (s.dropWrite tag)) :=
  congrArg Host.Outcome.next (s.responded_live (fun _ => linkTallyAnswered x) awaited rfl live)

theorem exec_adoptionWordResponse_live (x : WriteAnswer) (awaited : s.awaitsWrite tag .adoptionWord) :
    exec (.adoptionWordResponse tag x) s = .next (adoptionWordAnswered x (s.dropWrite tag)) :=
  congrArg Host.Outcome.next (s.responded_live (fun _ => adoptionWordAnswered x) awaited rfl live)

end Delivered

end Sys2Proof.Machine
end

section
/-! Steps without a command, the commands of RUN, the resets and the register window (10 sections 10.2 to 10.8). -/

namespace Sys2Proof.Machine

variable (s : State)

/-! ### The step the part takes of itself -/

theorem step_of_ownStep {c : Instr} (empty : s.pending = []) (own : s.ownStep = some c) :
    step s = .next { s with pending := [c] } := by
  simp only [step, empty, State.idle, own]

theorem step_of_no_ownStep (empty : s.pending = []) (own : s.ownStep = none) :
    step s = .next { s with timebase := s.timebase + 1 } := by
  simp only [step, empty, State.idle, own]

/-- The gap deadline is due. -/
def State.gapDue (s : State) : Prop := s.tracker.state ≠ .idle ∧ s.tracker.deadline = some s.timebase

/-- An admission is due. -/
def State.admitReady (s : State) : Prop :=
  s.live ∧ s.queue.entries.length < 32 ∧ (s.queue.requests ≠ [] ∨ ∃ k, s.rowReady k)

theorem State.gapDue_iff : (s.inFrame = true ∧ s.tracker.deadline = some s.timebase) ↔ s.gapDue := by
  rw [State.inFrame_iff, State.gapDue]

theorem State.ownStep_gap (gap : s.gapDue) : s.ownStep = some .gapTimeout := by
  rw [State.ownStep, if_pos (s.gapDue_iff.mpr gap)]

variable (noGap : ¬s.gapDue)

include noGap

theorem State.ownStep_stop (stops : s.stopReady) : s.ownStep = some .runStopped := by
  rw [State.ownStep, if_neg (mt s.gapDue_iff.mp noGap), if_pos (s.canStop_iff.mpr stops)]

variable (noStop : ¬s.stopReady)

include noStop

theorem State.ownStep_seal {k : ViewId} (ready : s.sealReady k) (least : ∀ j, j < k → ¬s.sealReady j) :
    s.ownStep = some (.sealingEntry k) := by
  have found : allViews.find? s.readyToSeal = some k :=
    find?_eq_some_of_least (by decide) mem_allViews ((s.readyToSeal_iff k).mpr ready) fun j below =>
      Bool.eq_false_iff.mpr (mt (s.readyToSeal_iff j).mp (least j below))
  rw [State.ownStep, if_neg (mt s.gapDue_iff.mp noGap), if_neg (mt s.canStop_iff.mp noStop), found]

variable (noSeal : ¬∃ k, s.sealReady k)

include noSeal

omit noGap noStop in
theorem State.find_readyToSeal : allViews.find? s.readyToSeal = none :=
  List.find?_eq_none.mpr fun k _ => mt (s.readyToSeal_iff k).mp fun ready => noSeal ⟨k, ready⟩

theorem State.ownStep_admission (admits : s.admitReady) : s.ownStep = some .admission := by
  rw [State.ownStep, if_neg (mt s.gapDue_iff.mp noGap), if_neg (mt s.canStop_iff.mp noStop),
    s.find_readyToSeal noSeal]
  exact if_pos (s.canAdmit_iff.mpr admits)

variable (noAdmission : ¬s.admitReady)

include noAdmission

theorem State.ownStep_scanners : s.ownStep = (allPools.find? s.canServe).map .claimServiceStart := by
  rw [State.ownStep, if_neg (mt s.gapDue_iff.mp noGap), if_neg (mt s.canStop_iff.mp noStop),
    s.find_readyToSeal noSeal]
  exact if_neg (mt s.canAdmit_iff.mp noAdmission)

theorem State.ownStep_serve {p : PoolId} (ready : s.serveReady p) (least : ∀ q, q < p → ¬s.serveReady q) :
    s.ownStep = some (.claimServiceStart p) := by
  have found : allPools.find? s.canServe = some p :=
    find?_eq_some_of_least (by decide) (by decide) ((s.canServe_iff p).mpr ready) fun q below =>
      Bool.eq_false_iff.mpr (mt (s.canServe_iff q).mp (least q below))
  rw [s.ownStep_scanners noGap noStop noSeal noAdmission, found]
  rfl

theorem State.ownStep_none (noService : ∀ p, ¬s.serveReady p) : s.ownStep = none := by
  have found : allPools.find? s.canServe = none := List.find?_eq_none.mpr fun p _ => mt (s.canServe_iff p).mp (noService p)
  rw [s.ownStep_scanners noGap noStop noSeal noAdmission, found]
  rfl

end Sys2Proof.Machine

namespace Sys2Proof
open Sys2Proof.Machine

/-- Settles O1: the definition of a step, at a queue with a command at its front. -/
theorem stepRunsFrontCommand : Obligations.StepRunsFrontCommand := by
  intro s c rest front
  rw [step, front]

/-- Settles O2: the own step that comes first is posted, and with none the timebase advances. -/
theorem emptyQueueStep : Obligations.EmptyQueueStep := by
  intro s empty
  refine ⟨fun gap => step_of_ownStep s empty (s.ownStep_gap gap),
    fun noGap stops => step_of_ownStep s empty (s.ownStep_stop noGap stops),
    fun k noGap noStop ready least => step_of_ownStep s empty (s.ownStep_seal noGap noStop ready least),
    fun noGap noStop noSeal admits => step_of_ownStep s empty (s.ownStep_admission noGap noStop noSeal admits),
    fun p noGap noStop noSeal noAdmission ready least =>
      step_of_ownStep s empty (s.ownStep_serve noGap noStop noSeal noAdmission ready least),
    fun noGap noStop noSeal noAdmission noService =>
      step_of_no_ownStep s empty (s.ownStep_none noGap noStop noSeal noAdmission noService)⟩

end Sys2Proof

namespace Sys2Proof.Machine

variable (s : State)

/-! ### START, STOP and ABORT -/

theorem takeStart_starts (state : s.run.state = .stopped) (aligned : s.run.anchor.toNat % 4096 = 0) :
    takeStart s =
      { s with
        run := { s.run with state := .starting, result := .accepted, progress := .linkWord }
        port := s.issued .linkWord (.read (s.run.anchor + 0x008) 4) } := by
  have notRefused : ¬s.run.state ≠ .stopped := by simp [state]
  have anchored : s.anchorAligned ≠ false := by simp [State.anchorAligned, aligned]
  rw [takeStart, if_neg notRefused, if_neg anchored, State.issue_eq _ rfl]
  rfl

/-- A fetch in flight, and no other, is marked for discard. -/
theorem markDiscard_eq : markDiscard s = { s with plan := { s.plan with discard := s.plan.discard || s.plan.fetch != .quiet } } := by
  unfold markDiscard
  split
  · next quiet =>
    have unmarked : (s.plan.fetch != .quiet) = false := by simpa using quiet
    rw [unmarked, Bool.or_false]
  · next fetching =>
    have marked : (s.plan.fetch != .quiet) = true := by simpa using fetching
    rw [marked, Bool.or_true]
    rfl

theorem takeStop_stops (state : s.run.state = .running) :
    takeStop s =
      { s with
        run := { s.run with state := .stopping, result := .accepted }
        plan := { s.plan with discard := s.plan.discard || s.plan.fetch != .quiet } } := by
  rw [takeStop, if_pos state, markDiscard_eq]
  rfl

/-- What an accepted ABORT does before it is passed to the blocks. -/
def State.aborted (s : State) : State :=
  { s with
    run := { s.run with state := .aborting, result := .accepted, progress := .none }
    plan := { s.plan with discard := s.plan.discard || s.plan.fetch != .quiet } }

theorem State.aborted_eq : markDiscard (((s.record .accepted).setRunState .aborting).setProgress .none) = s.aborted :=
  markDiscard_eq _

theorem takeAbort_starting (state : s.run.state = .starting) : takeAbort s = s.aborted := by
  rw [takeAbort, state, s.aborted_eq]

theorem takeAbort_inRun (state : s.run.state = .running ∨ s.run.state = .stopping) : takeAbort s = abortBlocks s.aborted := by
  rcases state with state | state <;> rw [takeAbort, state, s.aborted_eq]

/-! ### Answers after an ABORT in STARTING -/

section Aborting

variable {s} {tag : Nat} (aborting : s.run.state = .aborting)

include aborting

theorem live_of_aborting : s.live := by simp [State.live, aborting]

theorem linkWordAnswer_aborting (x : ReadAnswer 32) (awaited : s.awaits tag .linkWord) :
    exec (.linkWordAnswer tag x) s = .next (s.dropPort tag) := by
  rw [exec_linkWordAnswer_live (live_of_aborting aborting) x awaited]
  simp [linkWordAnswered, aborting]

theorem poolTableAnswer_aborting (x : ReadAnswer 512) (awaited : s.awaits tag .poolTable) :
    exec (.poolTableAnswer tag x) s = .next (s.dropPort tag) := by
  rw [exec_poolTableAnswer_live (live_of_aborting aborting) x awaited]
  simp [poolTableAnswered, aborting]

theorem startSelectorAnswer_aborting (x : ReadAnswer 64) (awaited : s.awaits tag .startSelector) :
    exec (.startSelectorAnswer tag x) s = .next (s.dropPort tag).quietFetch := by
  rw [exec_startSelectorAnswer_live (live_of_aborting aborting) x awaited]
  simp [startSelectorAnswered, aborting]

theorem startPageAnswer_aborting (x : ReadAnswer 8192) (awaited : s.awaits tag .startPage) :
    exec (.startPageAnswer tag x) s = .next (s.dropPort tag).quietFetch := by
  rw [exec_startPageAnswer_live (live_of_aborting aborting) x awaited, startPageAnswered, if_pos]
  simp [aborting]

end Aborting

/-! ### The flags -/

/-- An ABORT in a run raises nothing, in the channels and the tracker. -/
theorem abortBlocks_attention : (abortBlocks s).attention = s.attention := by
  have passed := State.Noticed.eachView s fun k t => abortChannel_noticed t s.timebase k
  exact (truncateFrame_spec _ _).1.trans passed.withdraws.attention

theorem takeStart_attention : (takeStart s).attention = s.attention := by
  unfold takeStart
  split
  · rfl
  · split
    · rfl
    · rw [State.issue_attention]
      rfl

theorem takeStop_attention : (takeStop s).attention = s.attention := by
  unfold takeStop
  split
  · rw [markDiscard_eq]
    rfl
  · rfl

theorem takeAbort_attention : (takeAbort s).attention = s.attention := by
  unfold takeAbort
  dsimp only
  rw [s.aborted_eq]
  split
  · rfl
  · exact abortBlocks_attention _
  · exact abortBlocks_attention _
  all_goals rfl

theorem takeClearFault_attention : (takeClearFault s).attention = s.attention := by
  unfold takeClearFault
  split
  · rfl
  · split <;> rfl

theorem State.raise_getLsbD (c : AttentionCause) (i : Nat) :
    (s.raise c).attention.flags.getLsbD i = (s.attention.flags.getLsbD i || decide (i = c.bit)) := by
  rw [State.raise_attention_flags_new, BitVec.getLsbD_or, AttentionCause.mask_getLsbD]

theorem State.clearFlags_getLsbD {value : Word} {i : Nat} (flag : i < 14) (written : value.getLsbD i = true) :
    (s.clearFlags value).attention.flags.getLsbD i = false := by
  simp [flag, written]

/-- A write of 1 that comes after the raise clears the flag, and one that comes before does not. -/
theorem State.flagged_raise_clearFlags (c : AttentionCause) {value : Word} (written : value.getLsbD c.bit = true) :
    ((s.raise c).clearFlags value).flagged c = false ∧ ((s.clearFlags value).raise c).flagged c = true := by
  constructor
  · rw [Bool.eq_false_iff, Ne, State.flagged_iff, State.clearFlags_getLsbD _ c.bit_lt written]
    exact Bool.false_ne_true
  · rw [State.flagged_iff, State.raise_getLsbD]
    simp

/-! ### The register window -/

theorem writeRegister_writeWindow (offset : Nat) (value : DWord) :
    writeWindow offset 4 value s = writeRegister offset (value.extractLsb' 0 32) s := if_pos rfl

/-- A write of 64 bits at a multiple of 8 is two writes of 32 bits, the lower offset first. -/
theorem writeWindow_wide {offset : Nat} (aligned : offset % 8 = 0) (value : DWord) :
    writeWindow offset 8 value s = writeWindow (offset + 4) 4 (value >>> 32) (writeWindow offset 4 value s) := by
  have upper : (value >>> 32).extractLsb' 0 32 = value.extractLsb' 32 32 := by
    apply BitVec.eq_of_getLsbD_eq
    intro i below
    simp [below]
  rw [writeRegister_writeWindow, writeRegister_writeWindow, upper, writeWindow, if_neg (by decide), if_pos ⟨rfl, aligned⟩]

theorem mem_registerOffsets {offset : Nat} :
    offset ∉ [0x00, 0x04, 0x08, 0x0C, 0x10, 0x14, 0x18] ↔ registerOffsets.contains offset = false := by
  rw [registerOffsets, Bool.eq_false_iff, Ne, List.contains_iff_mem]

/-- A read that stays inside a register returns the addressed bytes of it. -/
theorem State.readWindow_getElem {offset width i : Nat} (within : i < width) (fits : offset % 4 + width ≤ 4) :
    (s.readWindow offset width)[i]? = some ((s.readRegister (offset / 4 * 4)).extractLsb' (8 * (offset % 4 + i)) 8) := by
  have base : readBase offset width = offset / 4 * 4 := by
    unfold readBase
    split <;> omega
  have start : offset - offset / 4 * 4 = offset % 4 := by omega
  have notWide : ¬(width = 8 ∧ offset % 8 = 0) := by omega
  cases listed : registerOffsets.contains (offset / 4 * 4) with
  | false =>
    rw [State.readWindow_unlisted s (by rw [base]; exact listed), List.getElem?_replicate, if_pos within,
      State.readRegister_unlisted s listed]
    simp
  | true =>
    rw [State.readWindow, base, listed, if_neg Bool.noConfusion, if_neg notWide, start, List.getElem?_take_of_lt within,
      List.getElem?_drop, leBytes_getElem? _ (by omega)]

/-- A read of 64 bits at a multiple of 8 is two reads of 32 bits, the lower offset first. -/
theorem State.readWindow_wide {offset : Nat} (aligned : offset % 8 = 0) :
    s.readWindow offset 8 = s.readWindow offset 4 ++ s.readWindow (offset + 4) 4 := by
  cases listed : registerOffsets.contains offset with
  | true =>
    have base : readBase offset 8 = offset := rfl
    rw [State.readWindow_word, State.readWindow_word, State.readWindow, base, listed, if_neg Bool.noConfusion,
      if_pos ⟨rfl, aligned⟩]
  | false =>
    have next : registerOffsets.contains (offset + 4) = false := by
      rw [← mem_registerOffsets] at listed ⊢
      simp at listed ⊢
      omega
    rw [State.readWindow_unlisted s (offset := offset) (width := 8) listed,
      State.readWindow_unlisted s (offset := offset) (width := 4) listed,
      State.readWindow_unlisted s (offset := offset + 4) (width := 4) next, List.replicate_append_replicate]

/-! ### LINK_STATUS -/

theorem ReceiverState.code_lt (r : ReceiverState) : r.code < 4 := by cases r <;> decide

theorem State.readRegister_linkStatus :
    s.readRegister 0x18 = BitVec.ofNat 32 (s.receiver.state.code + 16 * s.receiver.lanes + (if s.inFrame then 256 else 0)) := rfl

/-- LINK_STATUS reads the receiver state in bits 1:0, the lanes in use in bits 6:4, the in-frame indication in bit 8, and 0 in every other
bit. -/
theorem State.readRegister_linkStatus_fields (lanes : s.receiver.lanes ≤ 4) :
    (s.readRegister 0x18).extractLsb' 0 2 = BitVec.ofNat 2 s.receiver.state.code
      ∧ (s.readRegister 0x18).extractLsb' 2 2 = 0
      ∧ ((s.readRegister 0x18).extractLsb' 4 3).toNat = s.receiver.lanes
      ∧ (s.readRegister 0x18).extractLsb' 7 1 = 0
      ∧ (s.readRegister 0x18).getLsbD 8 = s.inFrame
      ∧ (s.readRegister 0x18).extractLsb' 9 23 = 0 := by
  have state := s.receiver.state.code_lt
  have value (code lanes : Nat) (inFrame : Bool) (hcode : code < 4) (hlanes : lanes ≤ 4) :
      let x : Word := BitVec.ofNat 32 (code + 16 * lanes + (if inFrame then 256 else 0))
      x.extractLsb' 0 2 = BitVec.ofNat 2 code ∧ x.extractLsb' 2 2 = 0 ∧ (x.extractLsb' 4 3).toNat = lanes
        ∧ x.extractLsb' 7 1 = 0 ∧ x.getLsbD 8 = inFrame ∧ x.extractLsb' 9 23 = 0 := by
    revert inFrame
    interval_cases code <;> interval_cases lanes <;> decide
  exact value _ _ _ state lanes

/-! ### Slot words -/

theorem extractLsb'_code {n : Nat} (upper : BitVec n) (code : Byte) : (upper ++ code).extractLsb' 0 8 = code := by
  rw [BitVec.extractLsb'_append_eq_of_add_le (by decide), BitVec.extractLsb'_eq_self]

/-- The bits of a word above its state code. -/
theorem extractLsb'_above {n : Nat} (upper : BitVec n) (code : Byte) (start len : Nat) :
    (upper ++ code).extractLsb' (8 + start) len = upper.extractLsb' start len := by
  rw [BitVec.extractLsb'_append_eq_of_le (by omega), Nat.add_sub_cancel_left]

theorem freshSlotWord_fields (state : SlotState) (view : ViewId) (tag : Half) :
    (freshSlotWord state view tag).extractLsb' 0 8 = state.code
      ∧ ((freshSlotWord state view tag).extractLsb' 8 4).toNat = view.val
      ∧ (freshSlotWord state view tag).extractLsb' 12 4 = 0
      ∧ (freshSlotWord state view tag).extractLsb' 16 16 = tag := by
  refine ⟨extractLsb'_code _ _, ?_, ?_, ?_⟩
  · have field : (freshSlotWord state view tag).extractLsb' 8 4 = BitVec.ofNat 4 view.val := by
      refine (extractLsb'_above _ _ 0 4).trans ?_
      rw [BitVec.extractLsb'_append_eq_of_add_le (by decide), BitVec.extractLsb'_eq_self]
    rw [field, BitVec.toNat_ofNat]
    exact Nat.mod_eq_of_lt (by omega)
  · refine (extractLsb'_above _ _ 4 4).trans ?_
    rw [BitVec.extractLsb'_append_eq_of_le (by decide), BitVec.extractLsb'_append_eq_of_add_le (by decide)]
    rfl
  · refine (extractLsb'_above _ _ 8 16).trans ?_
    rw [BitVec.extractLsb'_append_eq_of_le (by decide), BitVec.extractLsb'_append_eq_of_le (by decide), BitVec.extractLsb'_eq_self]

theorem withSlotState_fields (word : Word) (state : SlotState) :
    (withSlotState word state).extractLsb' 0 8 = state.code
      ∧ (withSlotState word state).extractLsb' 8 24 = word.extractLsb' 8 24 :=
  ⟨extractLsb'_code _ _, (extractLsb'_above _ _ 0 24).trans BitVec.extractLsb'_eq_self⟩

/-- The state a slot word names, by the value of its code. -/
theorem slotState_codes (word : Word) :
    ((word.extractLsb' 0 8).toNat = 1 ↔ slotState word = .offered)
      ∧ ((word.extractLsb' 0 8).toNat = 2 ↔ slotState word = .taken)
      ∧ ((word.extractLsb' 0 8).toNat = 3 ↔ slotState word = .filling)
      ∧ ((word.extractLsb' 0 8).toNat = 4 ↔ slotState word = .filled)
      ∧ ((word.extractLsb' 0 8).toNat = 5 ↔ slotState word = .torn)
      ∧ ((word.extractLsb' 0 8).toNat = 6 ↔ slotState word = .refused)
      ∧ ((word.extractLsb' 0 8).toNat = 0 ∨ 6 < (word.extractLsb' 0 8).toNat ↔ slotState word = .held) := by
  unfold slotState
  dsimp only
  generalize word.extractLsb' 0 8 = code
  have byCode (n : Byte) : code = n ↔ code.toNat = n.toNat := BitVec.toNat_inj.symm
  simp only [byCode]
  generalize code.toNat = n
  grind

/-! ### Reaching STOPPED -/

theorem reachStopped_stops (ready : s.stopReady) :
    reachStopped s =
      { s with
        run := { s.run with state := .stopped }
        receiver := { huntFrom s.receiver with state := .off }
        plan := { s.plan with candidate := none }
        attention := { s.attention with flags := s.attention.flags ||| 0x1000 } } :=
  if_pos (s.canStop_iff.mpr ready)

end Sys2Proof.Machine

namespace Sys2Proof
open Sys2Proof.Machine

/-- Settles O5: what START and STOP do, once they are accepted. -/
theorem startAndStopAccepted : Obligations.StartAndStopAccepted :=
  ⟨fun s state aligned => congrArg _ (takeStart_starts s state aligned), fun s state => congrArg _ (takeStop_stops s state)⟩

/-- Settles O6: ABORT in STARTING, and the answers to the reads of START after it. -/
theorem abortInStarting : Obligations.AbortInStarting :=
  ⟨fun s state => congrArg _ (takeAbort_starting s state), fun _ _ x aborting => linkWordAnswer_aborting aborting x,
    fun _ _ x aborting => poolTableAnswer_aborting aborting x, fun _ _ x aborting => startSelectorAnswer_aborting aborting x,
    fun _ _ x aborting => startPageAnswer_aborting aborting x⟩

/-- Settles O9: the resets by their values; on a fresh part no transaction awaits an answer. -/
theorem resetsSetEveryBlock : Obligations.ResetsSetEveryBlock := by
  refine ⟨rfl, fun s => rfl, fun s => rfl, fun s => rfl, fun a e b n p => ⟨?_, rfl, rfl⟩, ?_, ?_⟩
  · simp [State.interruptLine]
  · exact fun a e b n p c r tag answers => exec_answer_unmatched _ ⟨r, answers⟩ fun _ _ => nofun
  · exact fun a e b n p c r tag responds => exec_response_unmatched _ ⟨r, responds⟩ fun _ _ => nofun

/-- Settles O10: the flags bit by bit; the commands to RUN but RESET raise and clear none. -/
theorem attentionFlags : Obligations.AttentionFlags := by
  refine ⟨fun s value => rfl, fun s c i _ => s.raise_getLsbD c i, fun s c value => s.flagged_raise_clearFlags c, rfl, fun s => rfl, ?_⟩
  rintro s t c (rfl | rfl | rfl | rfl) run <;> cases run
  · exact takeStart_attention s
  · exact takeStop_attention s
  · exact takeAbort_attention s
  · exact takeClearFault_attention s

/-- Settles O12: ANCHOR's halves, written in STOPPED and read at any time. -/
theorem anchorWrites : Obligations.AnchorWrites := by
  refine ⟨fun s value stopped => ⟨congrArg _ (if_pos stopped), congrArg _ (if_pos stopped)⟩,
    fun s value running => ⟨congrArg _ (writeAnchorLo_locked s running value), congrArg _ (writeAnchorHi_locked s running value)⟩,
    fun s => ?_⟩
  exact (BitVec.extractLsb'_append_extractLsb'_eq_extractLsb' rfl).trans BitVec.extractLsb'_eq_self

/-- Settles O13: the window by the width and the offset of the access. -/
theorem windowIgnoresAndNarrowReads : Obligations.WindowIgnoresAndNarrowReads := by
  refine ⟨?_, ?_, fun s value => ⟨rfl, rfl, rfl, rfl, rfl⟩, fun s offset unlisted => ?_, fun s offset width i => s.readWindow_getElem,
    ?_, ?_, fun s offset => s.readWindow_wide⟩
  · intro s offset width value ignored
    suffices unchanged : writeWindow offset width value s = s from congrArg _ unchanged
    rcases ignored with wellFormed | ⟨not4, not8⟩ | ⟨rfl, unaligned⟩
    · exact writeWindow_ignored s wellFormed value
    · rw [writeWindow, if_neg not4, if_neg fun wide => not8 wide.1]
    · rw [writeWindow, if_neg (by decide), if_neg fun wide => unaligned wide.2]
  · intro s t offset value aligned run
    cases run
    exact congrArg _ (writeWindow_wide s aligned value)
  · exact s.readRegister_unlisted (mem_registerOffsets.mp unlisted)
  · rintro s offset width (rfl | rfl) unlisted <;> exact s.readWindow_unlisted (mem_registerOffsets.mp unlisted)
  · intro s offset width narrow unlisted
    refine s.readWindow_unlisted ?_
    rw [readBase, if_pos narrow]
    exact mem_registerOffsets.mp unlisted

/-- Settles O14: IDENT, and LINK_STATUS by the value of its fields. -/
theorem identAndLinkStatus : Obligations.IdentAndLinkStatus := by
  refine ⟨fun s => rfl, fun s bounded => ?_, ?_⟩
  · have lanes : s.receiver.lanes ≤ 4 := by
      obtain ⟨-, -, -, lanes, -⟩ := bounded
      omega
    obtain ⟨state, low, count, gap, frame, high⟩ := s.readRegister_linkStatus_fields lanes
    refine ⟨?_, low, count, gap, ?_, high⟩
    · rw [state]
      cases s.receiver.state <;> rfl
    · rw [frame, State.inFrame]
      cases s.tracker.state <;> rfl
  · rintro s t c (rfl | rfl | rfl) run <;> cases run <;> rfl

/-- Settles O42: the words built field by field, and the states by their codes. -/
theorem slotWordsBuilt : Obligations.SlotWordsBuilt :=
  ⟨freshSlotWord_fields, withSlotState_fields, rfl, slotState_codes⟩

/-- Settles O52: RUN_STOPPED when the run is ready to stop, and otherwise. -/
theorem runReachesStopped : Obligations.RunReachesStopped := fun s =>
  ⟨fun ready => congrArg _ (reachStopped_stops s ready), fun busy => congrArg _ (if_neg (mt s.canStop_iff.mp busy))⟩

end Sys2Proof
end

section
/-! Sizes, check codes, records and conditioning: the arithmetic of the model (01, 04, 08 and 11). -/

namespace Sys2Proof.Machine

/-! ### Rounding -/

theorem roundUp_mod (n m : Nat) : roundUp n m % m = 0 := Nat.mul_mod_left _ _

theorem le_roundUp (n : Nat) {m : Nat} (positive : 0 < m) : n ≤ roundUp n m := by
  have split := Nat.div_add_mod (n + m - 1) m
  have rest := Nat.mod_lt (n + m - 1) positive
  have commuted := Nat.mul_comm ((n + m - 1) / m) m
  unfold roundUp
  omega

theorem roundUp_lt (n : Nat) {m : Nat} (positive : 0 < m) : roundUp n m < n + m := by
  have below := Nat.div_mul_le_self (n + m - 1) m
  unfold roundUp
  omega

/-! ### Derived sizes -/

/-- A window of whole cells: the outputs times the cell size are the inputs, at least one output, and at most the inputs. -/
theorem outputs_of_window {count P cells : Nat} (positive : 0 < count) (whole : count % (P * cells) = 0) (some : 1 ≤ cells) :
    count / (P * cells) * P * cells = count ∧ 1 ≤ count / (P * cells) * P ∧ count / (P * cells) * P ≤ count := by
  have product : count / (P * cells) * P * cells = count := by
    rw [Nat.mul_assoc]
    exact Nat.div_mul_cancel (Nat.dvd_of_mod_eq_zero whole)
  refine ⟨product, Nat.one_le_iff_ne_zero.mpr fun none => ?_, ?_⟩
  · rw [none, Nat.zero_mul] at product
    omega
  · calc count / (P * cells) * P ≤ count / (P * cells) * P * cells := Nat.le_mul_of_pos_right _ some
      _ = count := product

theorem windowOk_iff (P width height : Nat) (d : Descriptor) : windowOk P width height d = true ↔
    d.rowStart % P = 0 ∧ d.columnStart % P = 0 ∧ 0 < d.rowCount ∧ 0 < d.columnCount ∧ d.rowCount % (P * d.cellsV) = 0
      ∧ d.columnCount % (P * d.cellsH) = 0 ∧ d.rowStart + d.rowCount ≤ height ∧ d.columnStart + d.columnCount ≤ width := by
  simp [windowOk, and_assoc]

theorem weightsInRange_iff (n : Nat) (weight : Nat → Nat) : weightsInRange n weight = true ↔ ∀ j, j < n → weight j ≤ 15 := by
  simp [weightsInRange]

theorem weightsOk_iff (d : Descriptor) : weightsOk d = true ↔
    1 ≤ d.cellsV ∧ d.cellsV ≤ 16 ∧ 1 ≤ d.cellsH ∧ d.cellsH ≤ 16 ∧ (∀ j, j < d.cellsV → d.weightV j ≤ 15)
      ∧ (∀ j, j < d.cellsH → d.weightH j ≤ 15) ∧ 1 ≤ d.sumV ∧ 1 ≤ d.sumH := by
  simp [weightsOk, weightsInRange_iff, and_assoc]

/-- Rows of 1 to 16384 bytes, rounded up to whole lines of 64. -/
theorem stride_bounds {bytes : Nat} (least : 1 ≤ bytes) (most : bytes ≤ 16384) :
    64 ≤ roundUp bytes 64 ∧ roundUp bytes 64 ≤ 16384 := by
  have whole := roundUp_mod bytes 64
  have above := le_roundUp bytes (m := 64) (by decide)
  have below := roundUp_lt bytes (m := 64) (by decide)
  omega

end Sys2Proof.Machine

namespace Sys2Proof
open Sys2Proof.Machine

/-- Settles O36: whole cells and whole lines, and the products of their bounds. -/
theorem sizesDerived : Obligations.SizesDerived := by
  intro P width height d period widthBound heightBound window weights depth limit
  obtain ⟨-, -, someRows, someColumns, wholeRows, wholeColumns, rowsFit, columnsFit⟩ := (windowOk_iff P width height d).mp window
  obtain ⟨someV, -, someH, -⟩ := (weightsOk_iff d).mp weights
  obtain ⟨columns, leastWidth, mostWidth⟩ := outputs_of_window someColumns wholeColumns someH
  obtain ⟨rows, leastHeight, mostHeight⟩ := outputs_of_window someRows wholeRows someV
  intro z
  have pixel : z.pixelBytes = 1 ∨ z.pixelBytes = 2 := by
    by_cases eight : d.outDepth = 8
    · exact .inl (if_pos eight)
    · exact .inr (if_neg eight)
  have widthIs : z.outWidth = d.columnCount / (P * d.cellsH) * P := rfl
  have heightIs : z.outHeight = d.rowCount / (P * d.cellsV) * P := rfl
  have strideIs : z.stride = roundUp z.rowBytes 64 := rfl
  have areaIs : z.metadataArea = roundUp d.metadataLimit 64 := rfl
  have neededIs : z.neededBytes = 256 + z.metadataArea + z.outHeight * z.stride := rfl
  have bytesIs : z.rowBytes = z.outWidth * z.pixelBytes := rfl
  have rowBytes : 1 ≤ z.rowBytes ∧ z.rowBytes ≤ 16384 := by
    rw [bytesIs]
    rcases pixel with one | two
    · rw [one]; omega
    · rw [two]; omega
  obtain ⟨leastStride, mostStride⟩ := stride_bounds rowBytes.1 rowBytes.2
  have area : z.metadataArea ≤ 4096 := by
    have whole := roundUp_mod d.metadataLimit 64
    have below := roundUp_lt d.metadataLimit (m := 64) (by decide)
    omega
  have largest : z.outHeight * z.stride ≤ 8192 * 16384 := Nat.mul_le_mul (by omega) (by omega)
  refine ⟨rfl, columns, rfl, rows, fun eight => if_pos eight, fun more => if_neg more, rfl, roundUp_mod _ _, le_roundUp _ (by decide),
    roundUp_lt _ (by decide), by omega, by omega, by omega, by omega, by omega, by omega, roundUp_mod _ _, le_roundUp _ (by decide),
    roundUp_lt _ (by decide), fun none => ?_, rfl, fun k => rfl, rfl, by omega, by omega, rfl, rfl, rfl⟩
  rw [areaIs, none]
  rfl

end Sys2Proof

namespace Sys2Proof.Machine

/-! ### Conditioning -/

theorem depthStep_cases (din dout c : Nat) :
    (din = dout → depthStep din dout c = c) ∧ (din < dout → depthStep din dout c = c * 2 ^ (dout - din))
      ∧ (dout < din → depthStep din dout c = (c + 2 ^ (din - dout - 1)) / 2 ^ (din - dout)) := by
  refine ⟨fun same => ?_, fun up => if_pos (by omega), fun down => if_neg (by omega)⟩
  rw [depthStep, same, if_pos (Nat.le_refl _), Nat.sub_self, Nat.pow_zero, Nat.mul_one]

/-- The offset keeps a pixel below the range of its depth, and the gain below the bound the spec states. -/
theorem gainStep_offsetStep_le {din a gain : Nat} (offset : Nat) (depth : din = 10 ∨ din = 12 ∨ din = 14) (pixel : a < 2 ^ din)
    (factor : gain ≤ 4095) : offsetStep offset a < 2 ^ din ∧ gainStep gain (offsetStep offset a) ≤ 262064 := by
  have below : offsetStep offset a ≤ a := Nat.sub_le _ _
  have range : 2 ^ din ≤ 2 ^ 14 := Nat.pow_le_pow_right (by decide) (by omega)
  have product : offsetStep offset a * gain ≤ 16383 * 4095 := Nat.mul_le_mul (by omega) factor
  exact ⟨by omega, by unfold gainStep; omega⟩

theorem depthStep_le {din dout c : Nat} (depth : din = 10 ∨ din = 12 ∨ din = 14)
    (out : dout = 8 ∨ dout = 10 ∨ dout = 12 ∨ dout = 16) (bound : c ≤ 262064) : depthStep din dout c ≤ 16772096 := by
  rcases depth with rfl | rfl | rfl <;> rcases out with rfl | rfl | rfl | rfl <;> simp [depthStep] <;> omega

/-- A value beyond the output range is clipped to its end, and any other is stored as it is. -/
theorem storedPixel_cases (din a : Nat) (d : Descriptor) :
    (2 ^ d.outDepth - 1 < unsaturated din d a → storedPixel din d a = 2 ^ d.outDepth - 1 ∧ clips din d a = true)
      ∧ (unsaturated din d a ≤ 2 ^ d.outDepth - 1 → storedPixel din d a = unsaturated din d a ∧ clips din d a = false) :=
  ⟨fun beyond => ⟨Nat.min_eq_right (Nat.le_of_lt beyond), decide_eq_true beyond⟩,
    fun within => ⟨Nat.min_eq_left within, decide_eq_false (Nat.not_lt.mpr within)⟩⟩

end Sys2Proof.Machine

namespace Sys2Proof
open Sys2Proof.Machine

/-- Settles O54: each step of the conditioning, and its bound. -/
theorem pixelsConditioned : Obligations.PixelsConditioned := by
  refine ⟨fun offset a => ⟨fun _ => rfl, Nat.sub_eq_zero_of_le⟩, fun gain b => rfl, fun b => ⟨?_, ?_⟩, ?_, rfl, depthStep_cases,
    fun din dout c => depthStep_le, fun din a d => storedPixel_cases din a d⟩
  · unfold gainStep
    omega
  · unfold gainStep
    omega
  · intro din offset a gain depth pixel factor
    obtain ⟨range, bound⟩ := gainStep_offsetStep_le offset depth pixel factor
    refine ⟨range, bound, fun black => ?_⟩
    unfold offsetStep
    omega

end Sys2Proof

namespace Sys2Proof.Machine

/-! ### Check codes -/

section CheckCode

variable {n : Nat} (poly : BitVec n)

theorem crcBit_eq (register : BitVec n) (bit : Bool) :
    crcBit poly register bit = if register.msb = bit then register <<< 1 else (register <<< 1) ^^^ poly := by
  unfold crcBit
  cases register.msb <;> cases bit <;> rfl

/-- The check register is linear: its bits and the bits fed into it add without carry. -/
theorem crcBit_xor (x y : BitVec n) (bit : Bool) :
    crcBit poly (x ^^^ y) bit = crcBit poly x false ^^^ crcBit poly y bit := by
  have passed (z : BitVec n) : poly ^^^ (y <<< 1 ^^^ z) = y <<< 1 ^^^ (poly ^^^ z) := by
    rw [← BitVec.xor_assoc, BitVec.xor_comm poly, BitVec.xor_assoc]
  have last : poly ^^^ y <<< 1 = y <<< 1 ^^^ poly := BitVec.xor_comm _ _
  rw [crcBit_eq, crcBit_eq, crcBit_eq, BitVec.msb_xor, BitVec.shiftLeft_xor_distrib]
  cases x.msb <;> cases y.msb <;> cases bit <;> simp [BitVec.xor_assoc, passed, last]

theorem foldl_crcBit_xor (bits : List Bool) : ∀ x y : BitVec n,
    bits.foldl (crcBit poly) (x ^^^ y) = (bits.map fun _ => false).foldl (crcBit poly) x ^^^ bits.foldl (crcBit poly) y := by
  induction bits with
  | nil => exact fun _ _ => rfl
  | cons bit bits ih =>
    intro x y
    rw [List.foldl_cons, List.map_cons, List.foldl_cons, List.foldl_cons, crcBit_xor, ih]

end CheckCode

/-- One byte fed into the header check. -/
def crc8Byte (register b : Byte) : Byte := (bitsMostFirst b).foldl (crcBit 0x07#8) register

theorem crc8_append (bytes : List Byte) (b : Byte) : crc8 (bytes ++ [b]) = crc8Byte (crc8 bytes) b := List.foldl_append

/-- A register that reads the byte fed into it ends as zero. -/
theorem crc8Byte_self : ∀ b : Byte, crc8Byte b b = 0 := by decide +kernel

/-- Eight zero bits leave no register but zero at zero. -/
theorem crc8Byte_zero : ∀ x : Byte, (List.replicate 8 false).foldl (crcBit 0x07#8) x = 0 → x = 0 := by decide +kernel

/-- The header check is zero after a byte exactly if the byte reads as the check before it. -/
theorem crc8Byte_eq_zero (register b : Byte) : crc8Byte register b = 0 ↔ b = register := by
  constructor
  · intro zero
    have parts := foldl_crcBit_xor 0x07#8 (bitsMostFirst b) (register ^^^ b) b
    rw [BitVec.xor_assoc, BitVec.xor_self, BitVec.xor_zero] at parts
    have cleared : (List.replicate 8 false).foldl (crcBit 0x07#8) (register ^^^ b) = 0 := by
      have self := crc8Byte_self b
      unfold crc8Byte at zero self
      rw [zero, self] at parts
      exact (parts.trans BitVec.xor_zero).symm
    exact (BitVec.xor_eq_zero_iff.mp (crc8Byte_zero _ cleared)).symm
  · rintro rfl
    exact crc8Byte_self b

/-! ### Headers -/

theorem headerBytes_eq (h : BitVec 64) : headerBytes h = (List.range 8).map fun i => h.extractLsb' (8 * i) 8 := rfl

theorem headerCheckPasses_iff (h : BitVec 64) :
    headerCheckPasses h = true ↔ h.extractLsb' 56 8 = crc8 ((headerBytes h).take 7) := decide_eq_true_iff

theorem headerCheckPasses_iff_zero (h : BitVec 64) : headerCheckPasses h = true ↔ crc8 (headerBytes h) = 0 := by
  have whole : headerBytes h = (headerBytes h).take 7 ++ [h.extractLsb' 56 8] := rfl
  rw [headerCheckPasses_iff, whole, crc8_append, crc8Byte_eq_zero]
  rfl

theorem packetKind_eq (code : Nat) :
    packetKind code =
      (match code with
        | 0x01 => some .frameStart
        | 0x02 => some .metaRow
        | 0x03 => some .pixelRow
        | 0x04 => some .frameEnd
        | 0x0F => some .fill
        | _ => none) := by
  unfold packetKind
  grind

theorem headerGood_iff (lanes : Nat) (h : BitVec 64) : headerGood lanes h = true ↔
    headerCheckPasses h = true ∧ headerKind h ≠ none ∧ (h.extractLsb' 48 8).toNat = lanes := by
  simp [headerGood, Option.isSome_iff_ne_none, and_assoc, headerLanes, fieldAt]

theorem crc32_getLsbD (bytes : List Byte) {i : Nat} (below : i < 32) :
    (crc32 bytes).getLsbD i =
      !(bytes.foldl (fun register b => (bitsLeastFirst b).foldl (crcBit 0x04C11DB7#32) register) 0xFFFFFFFF).getLsbD
          (31 - i) := by
  rw [crc32, BitVec.getLsbD_not, BitVec.getLsbD_reverse, BitVec.getMsbD]
  simp [below]

end Sys2Proof.Machine

namespace Sys2Proof
open Sys2Proof.Machine

/-- Settles O16: the two check codes from their bit steps, and the fields of a header. -/
theorem headerCheckCode : Obligations.HeaderCheckCode :=
  ⟨fun _ => crcBit_eq, fun _ => ⟨rfl, rfl⟩, fun _ => rfl, by decide +kernel, headerBytes_eq, headerCheckPasses_iff,
    headerCheckPasses_iff_zero, by decide +kernel, fun h => ⟨packetKind_eq _, rfl, rfl, rfl⟩, headerGood_iff,
    fun bytes _ => crc32_getLsbD bytes, by decide +kernel⟩

end Sys2Proof
end

section
/-! The records the part writes, field by field (11 Tables 11-3 to 11-5 and 11-10). -/

namespace Sys2Proof.Machine

theorem leBytes_length (count value : Nat) : (leBytes count value).length = count := by simp [leBytes]

theorem leBytes_getElem (count value i : Nat) (below : i < count) :
    (leBytes count value)[i]? = some (BitVec.ofNat 8 (value / 256 ^ i)) := by
  have power : 2 ^ (8 * i) = 256 ^ i := Nat.pow_mul 2 8 i
  simp [leBytes, below, Nat.shiftRight_eq_div_pow, power]

theorem leBytes_succ (count value : Nat) : leBytes (count + 1) value = BitVec.ofNat 8 value :: leBytes count (value / 256) := by
  have shift (i : Nat) : value >>> (8 * (i + 1)) = (value / 256) >>> (8 * i) := by
    rw [Nat.mul_succ, Nat.add_comm, Nat.shiftRight_add]
    exact congrArg (· >>> (8 * i)) (Nat.shiftRight_eq_div_pow value 8)
  have tail : (List.range count).map (fun i => BitVec.ofNat 8 (value >>> (8 * (i + 1)))) = leBytes count (value / 256) :=
    List.map_congr_left fun i _ => congrArg (BitVec.ofNat 8) (shift i)
  rw [← tail, leBytes, List.range_succ_eq_map, List.map_cons, List.map_map]
  rfl

theorem leValue_leBytes {count : Nat} : ∀ {value : Nat}, value < 256 ^ count → leValue (leBytes count value) = value := by
  induction count with
  | zero => intro value bound; simp [leBytes, leValue] at bound ⊢; omega
  | succ count ih =>
    intro value bound
    have upper : value / 256 < 256 ^ count := by
      rw [Nat.pow_succ] at bound
      exact Nat.div_lt_of_lt_mul (by omega)
    have value_cons (b : Byte) (rest : List Byte) : leValue (b :: rest) = b.toNat + 256 * leValue rest := rfl
    rw [leBytes_succ, value_cons, ih upper, BitVec.toNat_ofNat]
    omega

/-! ### The flags of a frame record -/

theorem ViewFrame.flagBits_getLsbD (v : ViewFrame) {i : Nat} (below : i < 16) :
    (BitVec.ofNat 16 v.flagBits).getLsbD i =
      ((i = 0 && decide (0 < v.holeRows)) || (i = 1 && v.metaTruncated) || (i = 2 && v.metaLost)
        || (i = 3 && decide (v.saturated ≠ 0))) := by
  have value (a b c d : Bool) : ∀ i < 16,
      (BitVec.ofNat 16 ((if a then 1 else 0) + (if b then 2 else 0) + (if c then 4 else 0) + (if d then 0 else 8))).getLsbD i =
        ((i = 0 && a) || (i = 1 && b) || (i = 2 && c) || (i = 3 && !d)) := by
    revert a b c d
    decide
  have flags := value (decide (0 < v.holeRows)) v.metaTruncated v.metaLost (decide (v.saturated = 0)) i below
  simpa [ViewFrame.flagBits] using flags

theorem ViewFrame.flagBits_lt (v : ViewFrame) : v.flagBits < 256 ^ 2 := by
  unfold ViewFrame.flagBits
  split <;> split <;> split <;> split <;> decide

/-! ### Records as fields -/

/-- Field i of a record made of fields of known lengths. -/
theorem flatten_field {fields : List (List Byte)} {lengths : List Nat} (h : fields.map List.length = lengths) (i : Nat)
    {x : List Byte} (field : fields[i]? = some x) :
    (fields.flatten.drop (lengths.take i).sum).take (lengths.getD i 0) = x := by
  obtain ⟨before, after, rfl, rfl⟩ : ∃ before after, fields = before ++ x :: after ∧ before.length = i := by
    obtain ⟨below, rfl⟩ := List.getElem?_eq_some_iff.mp field
    exact ⟨fields.take i, fields.drop (i + 1), by simp, by simp; omega⟩
  subst h
  have start : (((before ++ x :: after).map List.length).take before.length).sum = before.flatten.length := by simp
  have size : ((before ++ x :: after).map List.length).getD before.length 0 = x.length := by simp [List.getD]
  rw [start, size, List.flatten_append, List.drop_left, List.flatten_cons, List.take_left]

/-- The fields of a frame record, class and cause as one. -/
def frameRecordFields (k : ViewId) (v : ViewFrame) : List (List Byte) :=
  [leBytes 2 v.frameNumber.toNat, leBytes 1 k.val, [BitVec.ofNat 8 v.sealClass.code, BitVec.ofNat 8 v.sealCause.code],
    leBytes 1 v.descriptor.outDepth, leBytes 2 v.flagBits, leBytes 4 v.planSequence.toNat, leBytes 2 v.sizes.outWidth,
    leBytes 2 v.sizes.outHeight, leBytes 2 v.rowsWritten, leBytes 2 0, leBytes 4 v.sizes.stride, leBytes 2 v.metadataBytes,
    leBytes 2 v.missingRows, leBytes 2 v.holeRows, leBytes 2 0, leBytes 4 v.saturated.toNat, leBytes 4 0,
    leBytes 8 v.startTime.toNat, leBytes 8 v.endTime.toNat, List.replicate 200 0]

/-- The fields of a view tally, last class and last cause as one. -/
def tallyFields (y : Tally) : List (List Byte) :=
  [leBytes 4 y.delivered.toNat, leBytes 4 y.torn.toNat, leBytes 4 y.returned.toNat, leBytes 4 y.skipped.toNat,
    leBytes 4 y.lost.toNat, leBytes 2 y.lastFrame.toNat, [BitVec.ofNat 8 y.lastClass.code, BitVec.ofNat 8 y.lastCause.code],
    List.replicate 8 0]

/-- The fields of the link tally. -/
def linkTallyFields (x : Tracker) (r : Receiver) : List (List Byte) :=
  [leBytes 4 x.framesStarted.toNat, leBytes 4 x.framesEnded.toNat, leBytes 4 x.framesTruncated.toNat,
    leBytes 4 r.headerErrors.toNat, leBytes 4 r.checkErrors.toNat, leBytes 4 r.lengthErrors.toNat, leBytes 4 x.orderErrors.toNat,
    leBytes 4 x.strayPackets.toNat, leBytes 4 r.lockLosses.toNat, leBytes 4 x.gapTimeouts.toNat, List.replicate 24 0]

/-- The fields of the adoption word area, reason and rejected view as one. -/
def adoptionWordFields (p : Report) : List (List Byte) :=
  [leBytes 4 p.adoptedSequence.toNat, leBytes 4 p.adoptionFrame.toNat, leBytes 4 p.rejectedSequence.toNat,
    [BitVec.ofNat 8 p.reason.code, p.rejectedView, 0, 0], leBytes 4 p.deferrals.toNat, leBytes 4 p.transients.toNat,
    leBytes 4 p.discards.toNat, leBytes 4 0]

theorem leBytes_one (value : Nat) : leBytes 1 value = [BitVec.ofNat 8 value] := rfl

theorem frameRecordBytes_eq (k : ViewId) (v : ViewFrame) : frameRecordBytes k v = (frameRecordFields k v).flatten := by
  unfold frameRecordBytes frameRecordFields
  generalize List.replicate 200 (0 : Byte) = reserved
  simp only [leBytes_one, List.flatten_cons, List.flatten_nil, List.append_nil,
    List.append_assoc, List.cons_append, List.nil_append]

theorem tallyBytes_eq (y : Tally) : tallyBytes y = (tallyFields y).flatten := by simp [tallyBytes, tallyFields, leBytes_one]

theorem linkTallyBytes_eq (x : Tracker) (r : Receiver) : linkTallyBytes x r = (linkTallyFields x r).flatten := by
  simp [linkTallyBytes, linkTallyFields]

theorem adoptionWordBytes_eq (p : Report) : adoptionWordBytes p = (adoptionWordFields p).flatten := by
  have zeros : leBytes 2 0 = [0, 0] := rfl
  simp [adoptionWordBytes, adoptionWordFields, leBytes_one, zeros]

theorem frameRecordFields_lengths (k : ViewId) (v : ViewFrame) :
    (frameRecordFields k v).map List.length = [2, 1, 2, 1, 2, 4, 2, 2, 2, 2, 4, 2, 2, 2, 2, 4, 4, 8, 8, 200] := by
  simp only [frameRecordFields, List.map_cons, List.map_nil, leBytes_length, List.length_replicate, List.length_cons, List.length_nil]

theorem tallyFields_lengths (y : Tally) : (tallyFields y).map List.length = [4, 4, 4, 4, 4, 2, 2, 8] := by
  simp only [tallyFields, List.map_cons, List.map_nil, leBytes_length, List.length_replicate, List.length_cons, List.length_nil]

theorem linkTallyFields_lengths (x : Tracker) (r : Receiver) :
    (linkTallyFields x r).map List.length = [4, 4, 4, 4, 4, 4, 4, 4, 4, 4, 24] := by
  simp only [linkTallyFields, List.map_cons, List.map_nil, leBytes_length, List.length_replicate]

theorem adoptionWordFields_lengths (p : Report) : (adoptionWordFields p).map List.length = [4, 4, 4, 4, 4, 4, 4, 4] := by
  simp only [adoptionWordFields, List.map_cons, List.map_nil, leBytes_length, List.length_cons, List.length_nil]

/-- Class and cause of a view frame at its sealing, by their codes. -/
theorem seal_codes_whole {v : ViewFrame} (whole : v.abandoned = none) :
    [BitVec.ofNat 8 v.sealClass.code, BitVec.ofNat 8 v.sealCause.code] = ([1, 1] : List Byte) := by
  simp [ViewFrame.sealClass, ViewFrame.sealCause, whole, OutcomeClass.code, OutcomeCause.code]

theorem seal_codes_torn {v : ViewFrame} {cause : OutcomeCause} (torn : v.abandoned = some cause) :
    [BitVec.ofNat 8 v.sealClass.code, BitVec.ofNat 8 v.sealCause.code] = ([2, BitVec.ofNat 8 cause.code] : List Byte) := by
  simp [ViewFrame.sealClass, ViewFrame.sealCause, torn, OutcomeClass.code]

theorem length_of_fields {fields : List (List Byte)} {lengths : List Nat} (h : fields.map List.length = lengths) :
    fields.flatten.length = lengths.sum := by
  rw [List.length_flatten, h]

end Sys2Proof.Machine

namespace Sys2Proof
open Sys2Proof.Machine

/-- Settles O53: each field by its place in the record, the flags bit by bit, and the bytes of a number. -/
theorem recordsLaidOut : Obligations.RecordsLaidOut := by
  refine ⟨fun k v => ?_, fun y => ?_, fun x r => ?_, fun p => ?_, rfl, rfl, ⟨rfl, ?_, ?_⟩, leBytes_getElem,
    fun count value bound => ⟨leBytes_length count value, leValue_leBytes bound⟩⟩
  · dsimp only
    rw [frameRecordBytes_eq]
    have lengths := frameRecordFields_lengths k v
    have outcome : ((frameRecordFields k v).flatten.drop 0x03).take 2 =
        [BitVec.ofNat 8 v.sealClass.code, BitVec.ofNat 8 v.sealCause.code] := flatten_field lengths 2 rfl
    have flags : ((frameRecordFields k v).flatten.drop 0x06).take 2 = leBytes 2 v.flagBits := flatten_field lengths 4 rfl
    exact ⟨length_of_fields lengths, flatten_field lengths 0 rfl, flatten_field lengths 1 rfl,
      fun whole => outcome.trans (seal_codes_whole whole), fun cause torn => outcome.trans (seal_codes_torn torn),
      flatten_field lengths 3 rfl,
      fun i below => by rw [flags, leValue_leBytes v.flagBits_lt]; exact v.flagBits_getLsbD below,
      flatten_field lengths 5 rfl, flatten_field lengths 6 rfl, flatten_field lengths 7 rfl, flatten_field lengths 8 rfl,
      flatten_field lengths 9 rfl, flatten_field lengths 10 rfl, flatten_field lengths 11 rfl, flatten_field lengths 12 rfl,
      flatten_field lengths 13 rfl, flatten_field lengths 14 rfl, flatten_field lengths 15 rfl, flatten_field lengths 16 rfl,
      flatten_field lengths 17 rfl, flatten_field lengths 18 rfl, flatten_field lengths 19 rfl⟩
  · dsimp only
    rw [tallyBytes_eq]
    have lengths := tallyFields_lengths y
    exact ⟨length_of_fields lengths, flatten_field lengths 0 rfl, flatten_field lengths 1 rfl, flatten_field lengths 2 rfl,
      flatten_field lengths 3 rfl, flatten_field lengths 4 rfl, flatten_field lengths 5 rfl, flatten_field lengths 6 rfl,
      flatten_field lengths 7 rfl⟩
  · dsimp only
    rw [linkTallyBytes_eq]
    have lengths := linkTallyFields_lengths x r
    exact ⟨length_of_fields lengths, flatten_field lengths 0 rfl, flatten_field lengths 1 rfl, flatten_field lengths 2 rfl,
      flatten_field lengths 3 rfl, flatten_field lengths 4 rfl, flatten_field lengths 5 rfl, flatten_field lengths 6 rfl,
      flatten_field lengths 7 rfl, flatten_field lengths 8 rfl, flatten_field lengths 9 rfl, flatten_field lengths 10 rfl⟩
  · dsimp only
    rw [adoptionWordBytes_eq]
    have lengths := adoptionWordFields_lengths p
    exact ⟨length_of_fields lengths, flatten_field lengths 0 rfl, flatten_field lengths 1 rfl, flatten_field lengths 2 rfl,
      flatten_field lengths 3 rfl, flatten_field lengths 4 rfl, flatten_field lengths 5 rfl, flatten_field lengths 6 rfl,
      flatten_field lengths 7 rfl⟩
  · intro r
    cases r <;> decide
  · intro r
    cases r <;> decide

end Sys2Proof
end

section
/-! Striping over the lanes, reduction, and the judgement of a plan (01, 04 and 07). -/

namespace Sys2Proof.Machine

/-! ### Shares of the lanes -/

theorem laneShare_le_iff {lanes j q : Nat} (total : Nat) (inUse : j < lanes) :
    laneShare lanes total j ≤ q ↔ total ≤ q * lanes + j := by
  rw [laneShare, if_pos inUse, ← Nat.lt_succ_iff, Nat.div_lt_iff_lt_mul (by omega), Nat.succ_mul]
  omega

theorem lt_laneShare_iff {lanes j q : Nat} (total : Nat) (inUse : j < lanes) :
    q < laneShare lanes total j ↔ q * lanes + j < total := by
  rw [← Nat.not_le, laneShare_le_iff total inUse, Nat.not_le]

/-- One byte more is one byte more on its own lane. -/
theorem laneShare_succ {lanes : Nat} (positive : 0 < lanes) (total j : Nat) :
    laneShare lanes (total + 1) j = laneShare lanes total j + (if total % lanes = j then 1 else 0) := by
  by_cases inUse : j < lanes
  · have split := Nat.div_add_mod total lanes
    rw [Nat.mul_comm] at split
    refine Nat.le_antisymm ((laneShare_le_iff _ inUse).mpr ?_) ?_
    · have bound := (laneShare_le_iff total inUse).mp (Nat.le_refl _)
      split
      · rw [Nat.add_mul]; omega
      · next other =>
        have different : total ≠ laneShare lanes total j * lanes + j := fun same => other (by
          rw [same, Nat.mul_comm, Nat.mul_add_mod, Nat.mod_eq_of_lt inUse])
        simp only [Nat.add_zero]; omega
    · split
      · next same =>
        have share : laneShare lanes total j ≤ total / lanes := (laneShare_le_iff total inUse).mpr (by omega)
        have next : total / lanes < laneShare lanes (total + 1) j := (lt_laneShare_iff _ inUse).mpr (by omega)
        omega
      · exact (laneShare_le_iff total inUse).mpr (by
          have bound := (laneShare_le_iff (total + 1) inUse).mp (Nat.le_refl _)
          omega)
  · have never : total % lanes ≠ j := fun same => inUse (same ▸ Nat.mod_lt _ positive)
    rw [laneShare, laneShare, if_neg inUse, if_neg inUse, if_neg never]

theorem laneShare_zero (lanes j : Nat) : laneShare lanes 0 j = 0 := by
  by_cases inUse : j < lanes
  · exact Nat.le_zero.mp ((laneShare_le_iff 0 inUse).mpr (Nat.zero_le _))
  · exact if_neg inUse

/-- The share of a lane is the count of the indices that travel on it. -/
theorem laneShare_eq_count {lanes : Nat} (positive : 0 < lanes) (total j : Nat) :
    laneShare lanes total j = ((List.range total).filter fun i => i % lanes = j).length := by
  induction total with
  | zero => exact laneShare_zero lanes j
  | succ total ih =>
    rw [laneShare_succ positive, ih, List.range_succ, List.filter_append, List.length_append]
    by_cases same : total % lanes = j <;> simp [same]

/-! ### The bytes of one lane -/

/-- The bytes of a packet that travel on lane j. -/
def stripe (lanes : Nat) (bytes : List Byte) (j : Nat) : List Byte :=
  (List.range bytes.length).filterMap fun i => if i % lanes = j then bytes[i]? else none

theorem stripeOver_getElem (lanes : Nat) (bytes : List Byte) (j : LaneId) : (stripeOver lanes bytes)[j] = stripe lanes bytes j.val := by
  fin_cases j <;> rfl

/-- One byte more joins the end of its own lane. -/
theorem stripe_append (lanes : Nat) (bytes : List Byte) (b : Byte) (j : Nat) :
    stripe lanes (bytes ++ [b]) j = stripe lanes bytes j ++ (if bytes.length % lanes = j then [b] else []) := by
  unfold stripe
  rw [List.length_append, List.length_singleton, List.range_succ, List.filterMap_append]
  congr 1
  · refine List.filterMap_congr fun i below => ?_
    rw [List.getElem?_append_left (List.mem_range.mp below)]
  · by_cases same : bytes.length % lanes = j <;> simp [same]

theorem stripe_length {lanes : Nat} (positive : 0 < lanes) (bytes : List Byte) (j : Nat) :
    (stripe lanes bytes j).length = laneShare lanes bytes.length j := by
  induction bytes using List.reverseRecOn with
  | nil => exact (laneShare_zero lanes j).symm
  | append_singleton bytes b ih =>
    rw [stripe_append, List.length_append, ih, List.length_append, List.length_singleton, laneShare_succ positive]
    split <;> rfl

/-- Byte i travels on lane i mod L, at place i / L of it. -/
theorem stripe_getElem? {lanes : Nat} (positive : 0 < lanes) (bytes : List Byte) {i : Nat} (below : i < bytes.length) :
    (stripe lanes bytes (i % lanes))[i / lanes]? = bytes[i]? := by
  have lane := Nat.mod_lt i positive
  have split := Nat.div_add_mod i lanes
  rw [Nat.mul_comm] at split
  induction bytes using List.reverseRecOn with
  | nil => simp at below
  | append_singleton bytes b ih =>
    rw [List.length_append, List.length_singleton] at below
    rw [stripe_append]
    by_cases old : i < bytes.length
    · have held : i / lanes < (stripe lanes bytes (i % lanes)).length := by
        rw [stripe_length positive, lt_laneShare_iff _ lane, split]
        exact old
      rw [List.getElem?_append_left held, ih old, List.getElem?_append_left old]
    · have last : i = bytes.length := by omega
      have full : (stripe lanes bytes (i % lanes)).length = i / lanes := by
        rw [stripe_length positive]
        refine Nat.le_antisymm ((laneShare_le_iff _ lane).mpr (by omega)) (Nat.not_lt.mp fun short => ?_)
        have more := (laneShare_le_iff (q := laneShare lanes bytes.length (i % lanes)) _ lane).mp (Nat.le_refl _)
        have fewer : laneShare lanes bytes.length (i % lanes) * lanes + lanes ≤ i / lanes * lanes := by
          rw [← Nat.succ_mul]
          exact Nat.mul_le_mul_right _ short
        omega
      rw [last, if_pos rfl, ← last, List.getElem?_append_right (Nat.le_of_eq full), full, Nat.sub_self, last,
        List.getElem?_append_right (Nat.le_refl _), Nat.sub_self]

/-! ### Rebuilding -/

theorem stripedFrom_eq_some {lanes : Nat} {held : LaneBytes} : ∀ {bytes : List Byte} {first : Nat},
    (∀ t, t < bytes.length → stripedByte lanes held (first + t) = bytes[t]?) →
      stripedFrom lanes held first bytes.length = some bytes
  | [], _, _ => rfl
  | b :: bytes, first, h => by
    have front : stripedByte lanes held first = some b := h 0 (by simp)
    have rest : stripedFrom lanes held (first + 1) bytes.length = some bytes :=
      stripedFrom_eq_some fun t below => by
        rw [Nat.add_assoc, Nat.add_comm 1]
        exact h (t + 1) (by simpa using below)
    rw [List.length_cons, stripedFrom, front, rest]

/-- Bytes are not rebuilt exactly when one of them has not arrived. -/
theorem stripedFrom_eq_none {lanes : Nat} {held : LaneBytes} (count : Nat) : ∀ first,
    stripedFrom lanes held first count = none ↔ ∃ i, first ≤ i ∧ i < first + count ∧ stripedByte lanes held i = none := by
  induction count with
  | zero => intro first; simp [stripedFrom]; omega
  | succ count ih =>
    intro first
    have either : stripedFrom lanes held first (count + 1) = none ↔
        stripedByte lanes held first = none ∨ stripedFrom lanes held (first + 1) count = none := by
      rw [stripedFrom]
      cases stripedByte lanes held first <;> cases stripedFrom lanes held (first + 1) count <;> simp
    rw [either, ih]
    constructor
    · rintro (missing | ⟨i, above, below, missing⟩)
      · exact ⟨first, Nat.le_refl _, by omega, missing⟩
      · exact ⟨i, by omega, by omega, missing⟩
    · rintro ⟨i, above, below, missing⟩
      by_cases front : i = first
      · exact .inl (front ▸ missing)
      · exact .inr ⟨i, by omega, by omega, missing⟩

section Lanes

variable {lanes : Nat} (positive : 0 < lanes) (four : lanes ≤ 4)

include positive four

theorem stripedByte_eq (held : LaneBytes) (i : Nat) :
    stripedByte lanes held i = held[(⟨i % lanes, Nat.lt_of_lt_of_le (Nat.mod_lt i positive) four⟩ : LaneId)][i / lanes]? := by
  have lane : i % lanes % 4 = i % lanes := Nat.mod_eq_of_lt (Nat.lt_of_lt_of_le (Nat.mod_lt i positive) four)
  simp only [stripedByte, lane]
  rfl

theorem rebuild_stripes {bytes : List Byte} {held : LaneBytes}
    (shares : ∀ j : LaneId, ∃ more, held[j] = (stripeOver lanes bytes)[j] ++ more) :
    rebuild lanes held bytes.length = some bytes := by
  refine stripedFrom_eq_some fun i below => ?_
  have placed := stripe_getElem? positive bytes below
  obtain ⟨more, share⟩ := shares ⟨i % lanes, Nat.lt_of_lt_of_le (Nat.mod_lt i positive) four⟩
  have within : i / lanes < (stripe lanes bytes (i % lanes)).length :=
    (List.getElem?_eq_some_iff.mp (placed.trans (List.getElem?_eq_getElem below))).1
  rw [Nat.zero_add, stripedByte_eq positive four, share, stripeOver_getElem, List.getElem?_append_left within, placed]

/-- A packet is not rebuilt exactly when a lane in use has not carried its share. -/
theorem rebuild_eq_none (held : LaneBytes) (n : Nat) :
    rebuild lanes held n = none ↔ ∃ j : LaneId, j.val < lanes ∧ held[j].length < laneShare lanes n j.val := by
  rw [rebuild, stripedFrom_eq_none]
  constructor
  · rintro ⟨i, -, below, missing⟩
    have split := Nat.div_add_mod i lanes
    rw [Nat.mul_comm] at split
    rw [stripedByte_eq positive four, List.getElem?_eq_none_iff] at missing
    refine ⟨_, Nat.mod_lt i positive, Nat.lt_of_le_of_lt missing ((lt_laneShare_iff n (Nat.mod_lt i positive)).mpr ?_)⟩
    omega
  · rintro ⟨j, inUse, short⟩
    have below := (lt_laneShare_iff n inUse).mp short
    have lane : (held[j].length * lanes + j.val) % lanes = j.val := by
      rw [Nat.mul_comm, Nat.mul_add_mod, Nat.mod_eq_of_lt inUse]
    have place : (held[j].length * lanes + j.val) / lanes = held[j].length := by
      rw [Nat.mul_comm, Nat.mul_add_div positive, Nat.div_eq_of_lt inUse, Nat.add_zero]
    refine ⟨held[j].length * lanes + j.val, Nat.zero_le _, by omega, ?_⟩
    simp only [stripedByte_eq positive four, lane, place]
    exact List.getElem?_eq_none (Nat.le_refl _)

end Lanes

end Sys2Proof.Machine

namespace Sys2Proof
open Sys2Proof.Machine

/-- Settles O18: the shares byte by byte, and the bytes back from the shares. -/
theorem stripingRebuilds : Obligations.StripingRebuilds := by
  intro lanes bytes count
  have positive : 0 < lanes := by omega
  have four : lanes ≤ 4 := by omega
  refine ⟨fun j => ⟨?_, laneShare_eq_count positive _ _⟩, fun held => rebuild_stripes positive four, rebuild_eq_none positive four⟩
  rw [stripeOver_getElem, stripe_length positive]

end Sys2Proof

namespace Sys2Proof.Machine

/-! ### Reduction -/

/-- The last row of a group is the last of its position and of its phase. -/
theorem last_row_iff {P cells : Nat} (u : Nat) (period : 0 < P) (some : 0 < cells) :
    (u + 1) % (P * cells) = 0 ↔ u / P % cells + 1 = cells ∧ u % P + 1 = P := by
  have phases := Nat.div_add_mod u P
  have positions := Nat.div_add_mod (u / P) cells
  have phase := Nat.mod_lt u period
  have position := Nat.mod_lt (u / P) some
  rw [Nat.mod_mul]
  by_cases lastPhase : u % P + 1 = P
  · have next : u + 1 = P * (u / P + 1) := by rw [Nat.mul_add]; omega
    rw [next, Nat.mul_mod_right, Nat.mul_div_cancel_left _ period, Nat.zero_add]
    by_cases lastPosition : u / P % cells + 1 = cells
    · have group : u / P + 1 = cells * (u / P / cells + 1) := by rw [Nat.mul_add]; omega
      rw [group, Nat.mul_mod_right]
      simp [lastPosition, lastPhase]
    · have within : (u / P + 1) % cells = u / P % cells + 1 := by
        have shape : u / P + 1 = cells * (u / P / cells) + (u / P % cells + 1) := by omega
        rw [shape, Nat.mul_add_mod, Nat.mod_eq_of_lt (by omega)]
      rw [within]
      simp [lastPosition, Nat.ne_of_gt period]
  · have within : (u + 1) % P = u % P + 1 := by
      have shape : u + 1 = P * (u / P) + (u % P + 1) := by omega
      rw [shape, Nat.mul_add_mod, Nat.mod_eq_of_lt (by omega)]
    rw [within]
    simp [lastPhase]

theorem placeRow_outside {P : Nat} {d : Descriptor} {r : Nat} (outside : r < d.rowStart ∨ d.rowStart + d.rowCount ≤ r) :
    placeRow P d r = none := if_pos outside

theorem placeRow_inside {P : Nat} {d : Descriptor} {r : Nat} (period : 0 < P) (cells : 0 < d.cellsV) (start : d.rowStart ≤ r)
    (inside : r < d.rowStart + d.rowCount) :
    ∃ place, placeRow P d r = some place ∧ place.phase < P ∧ place.position < d.cellsV
      ∧ r = d.rowStart + (place.group * d.cellsV + place.position) * P + place.phase
      ∧ place.weight = d.weightV place.position
      ∧ (place.last = true ↔ place.position + 1 = d.cellsV ∧ place.phase + 1 = P) := by
  refine ⟨_, if_neg (by omega), Nat.mod_lt _ period, Nat.mod_lt _ cells, ?_, rfl, ?_⟩
  · have phases := Nat.div_add_mod (r - d.rowStart) P
    have positions := Nat.div_add_mod ((r - d.rowStart) / P) d.cellsV
    rw [Nat.mul_comm] at phases positions
    dsimp only
    rw [positions]
    omega
  · rw [← last_row_iff _ period cells]
    exact beq_iff_eq

theorem inputColumn_eq {P q : Nat} (d : Descriptor) (cell j : Nat) (phase : q < P) :
    inputColumn P d (cell * P + q) j = d.columnStart + (cell * d.cellsH + j) * P + q := by
  have cellIs : (cell * P + q) / P = cell := by
    rw [Nat.mul_comm, Nat.mul_add_div (by omega), Nat.div_eq_of_lt phase, Nat.add_zero]
  have phaseIs : (cell * P + q) % P = q := by rw [Nat.mul_comm, Nat.mul_add_mod, Nat.mod_eq_of_lt phase]
  rw [inputColumn, cellIs, phaseIs]

/-- Bit m of bytes taken least significant first is bit m mod 8 of byte m / 8. -/
theorem leValue_testBit (bytes : List Byte) : ∀ m, (leValue bytes).testBit m = (bytes.getD (m / 8) 0).getLsbD (m % 8) := by
  induction bytes with
  | nil => intro m; simp [leValue]
  | cons b bytes ih =>
    intro m
    have shape : leValue (b :: bytes) = 2 ^ 8 * leValue bytes + b.toNat := Nat.add_comm _ _
    rw [shape, Nat.testBit_two_pow_mul_add _ b.isLt]
    by_cases first : m < 8
    · rw [if_pos first, Nat.div_eq_of_lt first, Nat.mod_eq_of_lt first]
      rfl
    · have place : m / 8 = (m - 8) / 8 + 1 := by omega
      have bit : m % 8 = (m - 8) % 8 := by omega
      rw [if_neg first, ih, place, bit, List.getD_cons_succ]

theorem pixelAt_testBit (payload : List Byte) (depth k i : Nat) :
    (pixelAt depth (pixelStream payload) k).testBit i =
      (decide (i < depth) && (payload.getD ((k * depth + i) / 8) 0).getLsbD ((k * depth + i) % 8)) := by
  rw [pixelAt, Nat.testBit_mod_two_pow, Nat.testBit_shiftRight, pixelStream, leValue_testBit]

theorem ViewFrame.groupHoles_one {v : ViewFrame} {a : Nat} (period : v.period = 1) (present : v.present = [a]) :
    v.groupHoles = if a = 0 then 1 else 0 := by
  rw [ViewFrame.groupHoles, period, present]
  by_cases hole : a = 0 <;> simp [hole]

theorem ViewFrame.groupHoles_two {v : ViewFrame} {a b : Nat} (period : v.period = 2) (present : v.present = [a, b]) :
    v.groupHoles = (if a = 0 then 1 else 0) + (if b = 0 then 1 else 0) := by
  rw [ViewFrame.groupHoles, period, present]
  by_cases first : a = 0 <;> by_cases second : b = 0 <;> simp [List.range_succ, first, second]

theorem ceilDiv_eq (n m : Nat) (positive : 0 < m) : ceilDiv n m = (n + (m - 1)) / m := by
  rw [ceilDiv, Nat.add_sub_assoc positive]

end Sys2Proof.Machine

namespace Sys2Proof
open Sys2Proof.Machine

/-- Settles O27: the place of a row and of a column, the bits of a pixel, and the sums and rows as they are defined. -/
theorem reductionArithmetic : Obligations.ReductionArithmetic := by
  refine ⟨fun P d r period some => ⟨placeRow_outside, placeRow_inside period some⟩, fun P d => rfl,
    fun P d q cell j => inputColumn_eq d cell j, pixelAt_testBit, fun P depth wOut d payload => rfl,
    fun den num => ⟨rfl, fun positive => if_neg (by omega)⟩,
    fun v a b => ⟨ViewFrame.groupHoles_one, ViewFrame.groupHoles_two⟩, fun v => ⟨?_, rfl⟩⟩
  simp only [ViewFrame.cellRow, packedRow, List.flatMap_def]
  rfl

end Sys2Proof

namespace Sys2Proof.Machine

/-! ### The judgement of a plan -/

variable (pools : Vector (Option PoolDefinition) 4) (sequence : Word) (page : Page)

theorem enabledIn_mask (k : ViewId) : enabledIn page.mask k = page.getLsbD (32 + k.val) := by
  rw [enabledIn, Page.mask, BitVec.getLsbD_extractLsb', decide_eq_true (by omega : k.val < 8), Bool.true_and]

theorem Page.whole_iff : page.whole sequence = true ↔ page.head = sequence ∧ page.tail = sequence := by simp [Page.whole]

theorem Page.headerOk_iff : page.headerOk = true ↔
    16 ≤ page.width.toNat ∧ page.width.toNat ≤ 8192 ∧ page.width.toNat % 4 = 0 ∧ 1 ≤ page.height.toNat
      ∧ page.height.toNat ≤ 8192 ∧ (page.period.toNat = 2 → page.height.toNat % 2 = 0)
      ∧ (page.depth.toNat = 10 ∨ page.depth.toNat = 12 ∨ page.depth.toNat = 14)
      ∧ (page.period.toNat = 1 ∨ page.period.toNat = 2) ∧ page.gapLimit.toNat ≤ 1000000 := by
  have byte (b n : Byte) : b = n ↔ b.toNat = n.toNat := BitVec.toNat_inj.symm
  simp [Page.headerOk, and_assoc, or_assoc, byte, imp_iff_not_or]

theorem conditioningOk_iff (depth : Nat) (d : Descriptor) : conditioningOk depth d = true ↔
    d.blackOffset ≤ 16383 ∧ d.blackOffset < 2 ^ depth ∧ d.gain ≤ 4095
      ∧ (d.outDepth = 8 ∨ d.outDepth = 10 ∨ d.outDepth = 12 ∨ d.outDepth = 16) := by
  simp [conditioningOk, and_assoc, or_assoc]

theorem choicesOk_iff (d : Descriptor) : choicesOk d = true ↔
    d.policy ≤ 1 ∧ d.notify ≤ 1 ∧ 1 ≤ d.every ∧ d.phase < d.every ∧ d.metadataLimit ≤ 4096 := by
  simp [choicesOk, and_assoc]

theorem viewRangesOk_iff (d : Descriptor) : viewRangesOk page d = true ↔
    windowOk page.period.toNat page.width.toNat page.height.toNat d = true ∧ weightsOk d = true
      ∧ conditioningOk page.depth.toNat d = true ∧ choicesOk d = true ∧ d.pool ≤ 3 := by
  simp [viewRangesOk, and_assoc]

/-- View k is not enabled, or in range with its pool present. -/
def viewPasses (k : ViewId) : Prop :=
  enabledIn page.mask k = true →
    viewRangesOk page (page.descriptor k.val) = true ∧ pools[(page.descriptor k.val).poolId].isSome = true

theorem viewFault_none (k : ViewId) : viewFault pools page k = none ↔
    viewRangesOk page (page.descriptor k.val) = true ∧ pools[(page.descriptor k.val).poolId].isSome = true := by
  unfold viewFault
  dsimp only
  cases viewRangesOk page (page.descriptor k.val) <;> cases pools[(page.descriptor k.val).poolId] <;> simp

theorem viewFault_range {k : ViewId} (outside : viewRangesOk page (page.descriptor k.val) = false) :
    viewFault pools page k = some .badView := if_pos outside

theorem viewFault_pool {k : ViewId} (inside : viewRangesOk page (page.descriptor k.val) = true)
    (absent : ¬pools[(page.descriptor k.val).poolId].isSome = true) : viewFault pools page k = some .badPool := by
  have isNone : pools[(page.descriptor k.val).poolId].isNone = true := by simpa using absent
  rw [viewFault, inside]
  exact if_pos isNone

/-- The first view that fails decides. -/
theorem firstViewFault_some {k : ViewId} {reason : Reason} (before : ∀ j, j < k → viewPasses pools page j)
    (enabled : enabledIn page.mask k = true) (fault : viewFault pools page k = some reason) :
    firstViewFault pools page = some (reason, k) := by
  have passed {j : ViewId} (below : j < k) :
      (if enabledIn page.mask j then (viewFault pools page j).map fun r => (r, j) else none) = none := by
    split
    · next on => rw [(viewFault_none pools page j).mpr (before j below on), Option.map_none]
    · rfl
  obtain ⟨l, r, views, lower⟩ : ∃ l r, allViews = l ++ k :: r ∧ ∀ j ∈ l, j < k := by
    have split : ∀ k : ViewId, allViews = allViews.take k.val ++ k :: allViews.drop (k.val + 1)
        ∧ ∀ j ∈ allViews.take k.val, j < k := by decide
    exact ⟨_, _, split k⟩
  rw [firstViewFault, views, List.findSome?_append, List.findSome?_eq_none_iff.mpr fun j hj => passed (lower j hj),
    Option.none_or, List.findSome?_cons, if_pos enabled, fault]
  rfl

theorem firstViewFault_none (passes : ∀ k, viewPasses pools page k) : firstViewFault pools page = none := by
  refine List.findSome?_eq_none_iff.mpr fun k _ => ?_
  split
  · next on => rw [(viewFault_none pools page k).mpr (passes k on), Option.map_none]
  · rfl

section Judged

theorem judge_torn (torn : page.whole sequence = false) : judge pools sequence (.ok page) = .rejected .tornPage 0xFF := if_pos torn

variable (whole : page.whole sequence = true)

include whole

theorem judge_badHeader (bad : page.headerOk = false) : judge pools sequence (.ok page) = .rejected .badHeader 0xFF := by
  rw [judge, judgePage, if_neg (by simp [whole]), if_pos bad]

variable (header : page.headerOk = true)

include header

theorem judge_badView {k : ViewId} {reason : Reason} (first : firstViewFault pools page = some (reason, k)) :
    judge pools sequence (.ok page) = .rejected reason (BitVec.ofNat 8 k.val) := by
  rw [judge, judgePage, if_neg (by simp [whole]), if_neg (by simp [header]), first]

variable (passes : ∀ k, viewPasses pools page k)

include passes

theorem judge_lineMemory (excess : 512 < (page.record sequence).lineBlocks) :
    judge pools sequence (.ok page) = .rejected .lineMemory 0xFF := by
  rw [judge, judgePage, if_neg (by simp [whole]), if_neg (by simp [header]), firstViewFault_none pools page passes]
  exact if_pos excess

theorem judge_valid (fits : (page.record sequence).lineBlocks ≤ 512) :
    judge pools sequence (.ok page) = .valid (page.record sequence) := by
  rw [judge, judgePage, if_neg (by simp [whole]), if_neg (by simp [header]), firstViewFault_none pools page passes]
  exact if_neg (Nat.not_lt.mpr fits)

end Judged

theorem Page.record_view (k : ViewId) : (page.record sequence).views[k] = page.descriptor k.val := by fin_cases k <;> rfl

theorem Page.record_sizes (k : ViewId) : (page.record sequence).sizes[k] = pageSizes page k := by fin_cases k <;> rfl

theorem blocksOf_pageSizes (k : ViewId) : blocksOf (pageSizes page k) =
    if enabledIn page.mask k then (derivedSizes page.period.toNat (page.descriptor k.val)).lineBlocks else 0 := by
  unfold pageSizes
  split <;> rfl

theorem Descriptor.poolId_val {d : Descriptor} (range : d.pool ≤ 3) : d.poolId.val = d.pool :=
  Nat.mod_eq_of_lt (Nat.lt_succ_of_le range)

end Sys2Proof.Machine

namespace Sys2Proof
open Sys2Proof.Machine

/-- Settles O35: the steps of the judgement in their order, each check by the fields it reads. -/
theorem planJudged : Obligations.PlanJudged := by
  refine ⟨fun d => ⟨rfl, rfl, rfl, rfl, rfl, rfl, rfl, rfl, rfl, rfl, rfl, rfl, rfl, rfl, rfl, fun j _ => ⟨rfl, rfl⟩,
    Descriptor.poolId_val⟩, fun n x offset bytes => rfl, fun pools sequence => ⟨rfl, fun (page : Page) => ?_⟩⟩
  intro whole width height depth P header enabled view inRange present passes blocks total result
  have wholeIff : page.whole sequence = true ↔ whole := page.whole_iff sequence
  have headerIff : page.headerOk = true ↔ header := page.headerOk_iff
  have enabledIff (k : ViewId) : enabledIn page.mask k = true ↔ enabled k := by rw [enabledIn_mask page k]
  have rangeIff (k : ViewId) : viewRangesOk page (page.descriptor k.val) = true ↔ inRange (view k) := by
    rw [viewRangesOk_iff, windowOk_iff, weightsOk_iff, conditioningOk_iff, choicesOk_iff]
    rfl
  have passesIff (k : ViewId) : viewPasses pools page k ↔ passes k := imp_congr (enabledIff k) (and_congr_left' (rangeIff k))
  have blocksIs (k : ViewId) : blocksOf (page.record sequence).sizes[k] = blocks k := by
    rw [page.record_sizes, blocksOf_pageSizes, enabledIn_mask page k]
    rfl
  have totalIs : (page.record sequence).lineBlocks = total := by
    simp only [Plan.lineBlocks, allViews, List.map_cons, List.map_nil, List.sum_cons, List.sum_nil, blocksIs, total]
    omega
  refine ⟨fun torn => judge_torn pools sequence page (Bool.eq_false_iff.mpr (mt wholeIff.mp torn)),
    fun isWhole bad => judge_badHeader pools sequence page (wholeIff.mpr isWhole) (Bool.eq_false_iff.mpr (mt headerIff.mp bad)),
    fun isWhole good k before on => ?_, fun isWhole good all excess => ?_, fun isWhole good all fits => ?_⟩
  · have first {reason : Reason} := firstViewFault_some pools page (reason := reason)
      (fun j below => (passesIff j).mpr (before j below)) ((enabledIff k).mpr on)
    refine ⟨fun outside => ?_, fun inside absent => ?_⟩
    · exact judge_badView pools sequence page (wholeIff.mpr isWhole) (headerIff.mpr good)
        (first (viewFault_range pools page (Bool.eq_false_iff.mpr (mt (rangeIff k).mp outside))))
    · exact judge_badView pools sequence page (wholeIff.mpr isWhole) (headerIff.mpr good)
        (first (viewFault_pool pools page ((rangeIff k).mpr inside) absent))
  · exact judge_lineMemory pools sequence page (wholeIff.mpr isWhole) (headerIff.mpr good) (fun k => (passesIff k).mpr (all k))
      (by rw [totalIs]; exact excess)
  · refine ⟨_, judge_valid pools sequence page (wholeIff.mpr isWhole) (headerIff.mpr good) (fun k => (passesIff k).mpr (all k))
      (by rw [totalIs]; exact fits), rfl, rfl, rfl, rfl, rfl, rfl, rfl, fun k => ⟨page.record_view sequence k, fun on => ?_, fun off => ?_⟩⟩
    · rw [page.record_sizes]
      exact if_pos ((enabledIff k).mpr on)
    · rw [page.record_sizes]
      exact if_neg (mt (enabledIff k).mp off)

end Sys2Proof
end

section
/-! The reads of START, the fetches of a run, and the ends of the bookkeeping writes (01 R3 to R5, 03, 10 R164 and R165). -/

namespace Sys2Proof.Machine

variable (s : State)

/-! ### The plan unit's operations as updates of the state -/

theorem State.joined_joined (r : Request) : State.joined { s with queue := s.joined r } r = s.joined r := by
  have twice := congrArg State.queue (s.ask_ask r)
  rw [State.ask_eq, State.ask_eq] at twice
  exact twice

theorem reportRejection_eq (sequence : Word) (reason : Reason) (view : Byte) :
    reportRejection sequence reason view s =
      { s with
        plan :=
          { s.plan with
            remembered := if reason.definitive then some sequence else s.plan.remembered
            report :=
              { s.plan.report with
                rejectedSequence := sequence
                reason := reason
                rejectedView := view
                transients := if reason.transient then s.plan.report.transients + 1 else s.plan.report.transients } }
        queue := s.joined .adoptionWord
        attention := { s.attention with flags := s.attention.flags ||| 0x0080 } } := by
  rw [reportRejection, State.ask_eq]
  rfl

/-- The pending plan is discarded, and the write asked for if there was one. -/
theorem discardCandidate_eq :
    discardCandidate s =
      { s with
        plan := s.plan.without
        queue := if s.plan.candidate = none then s.queue else s.joined .adoptionWord } := by
  unfold discardCandidate PlanUnit.without PlanUnit.dropCandidate
  cases pending : s.plan.candidate with
  | none => simp [← pending]
  | some p =>
    rw [State.ask_eq]
    rfl

/-- A rejection that discards the pending plan asks for one write. -/
theorem reportRejection_discardCandidate (sequence : Word) {reason : Reason} (view : Byte) (definitive : reason.definitive = true) :
    reportRejection sequence reason view (discardCandidate s) =
      { s with
        plan :=
          { s.plan.without with
            remembered := some sequence
            report := { s.plan.without.report with rejectedSequence := sequence, reason := reason, rejectedView := view } }
        queue := s.joined .adoptionWord
        attention := { s.attention with flags := s.attention.flags ||| 0x0080 } } := by
  have kind : reason.transient = false := by cases reason <;> simp [Reason.definitive, Reason.transient] at definitive ⊢
  have asked : (discardCandidate s).joined .adoptionWord = s.joined .adoptionWord := by
    rw [discardCandidate_eq]
    by_cases pending : s.plan.candidate = none
    · rw [if_pos pending]
      rfl
    · rw [if_neg pending]
      exact s.joined_joined _
  rw [reportRejection_eq, asked, discardCandidate_eq, definitive, kind]
  rfl

theorem State.issue_setPlan (live : s.live) (plan : PlanUnit) (role : PortRole) (access : PortAccess) :
    (s.setPlan plan).issue role access = { s with plan := plan, port := s.issued role access } :=
  State.issue_eq (s.setPlan plan) (s.halted_of_live live) role access

theorem readPage_eq (live : s.live) (role : PortRole) (x : Selector) :
    readPage role x s =
      { s with
        plan := { s.plan with fetch := .page, selector := some x }
        port := s.issued role (.read (s.run.anchor + (if x.page = 0 then 0x400 else 0x800)) 1024) } := by
  rw [readPage, s.issue_setPlan live]
  rfl

theorem readSelector_eq (live : s.live) (role : PortRole) :
    readSelector role s =
      { s with
        plan := { s.plan with fetch := .selector, selector := none, discard := false }
        port := s.issued role (.read s.run.anchor 8) } := by
  have base : s.run.anchor + 0 = s.run.anchor := BitVec.add_zero _
  rw [readSelector, s.issue_setPlan live, State.blockAddress, base]

theorem adoptPlan_eq (p : Plan) (frame : Word) :
    adoptPlan p frame s =
      { s with
        plan :=
          { s.plan with
            adopted := some p
            candidate := none
            report := { s.plan.report with adoptedSequence := p.sequence, adoptionFrame := frame } }
        allocations := p.allocations
        queue := s.joined .adoptionWord
        attention := { s.attention with flags := s.attention.flags ||| 0x0040 } } := by
  rw [adoptPlan, State.ask_eq]
  rfl

/-! ### The reads of START -/

section Starting

variable {s} {tag : Nat} (starting : s.run.state = .starting)

include starting

theorem live_of_starting : s.live := by simp [State.live, starting]

theorem linkWordAnswered_ok (data : Word) :
    linkWordAnswered (.ok data) s =
      if data = 1 ∨ data = 2 ∨ data = 4 then
        { s with
          run := { s.run with lanesRead := data.toNat, progress := .poolTable }
          port := s.issued .poolTable (.read (s.run.anchor + 0x040) 64) }
      else startFailed s 0 .badLinkWord 0xFF := by
  have lanes : laneCountOk data.toNat = true ↔ data = 1 ∨ data = 2 ∨ data = 4 := by
    have word (n : Word) : data = n ↔ data.toNat = n.toNat := BitVec.toNat_inj.symm
    simp [laneCountOk, word, or_assoc]
  have live : State.halted { s with run := { s.run with lanesRead := data.toNat, progress := .poolTable } } = false :=
    s.halted_of_live (live_of_starting starting)
  have judged : linkWordAnswered (.ok data) s =
      if laneCountOk data.toNat then
        State.issue { s with run := { s.run with lanesRead := data.toNat, progress := .poolTable } } .poolTable
          (.read (s.blockAddress 0x040) 64)
      else failStart 0 .badLinkWord 0xFF s := by simp [linkWordAnswered, starting, State.blockAddress]
  rw [judged, failStart_eq, State.issue_eq _ live]
  exact if_congr lanes rfl rfl

theorem poolTableAnswered_some {data : BitVec 512} {pools : Vector (Option PoolDefinition) 4}
    (table : poolTable s.run.anchor data = some pools) :
    poolTableAnswered (.ok data) s =
      { s with
        run := { s.run with pools := pools, progress := .plan }
        plan := { s.plan with fetch := .selector, selector := none, discard := false }
        port := s.issued .startSelector (.read s.run.anchor 8) } := by
  have judged : poolTableAnswered (.ok data) s =
      readSelector .startSelector { s with run := { s.run with pools := pools, progress := .plan } } := by
    simp [poolTableAnswered, starting, table]
  exact judged.trans (readSelector_eq { s with run := { s.run with pools := pools, progress := .plan } } (live_of_starting starting) _)

theorem poolTableAnswered_none {data : BitVec 512} (table : poolTable s.run.anchor data = none) :
    poolTableAnswered (.ok data) s = startFailed s 0 .badPoolTable 0xFF := by
  rw [← failStart_eq]
  simp [poolTableAnswered, starting, table]

variable (kept : s.plan.discard = false)

include kept

theorem startSelectorAnswered_ok (data : BitVec 64) :
    startSelectorAnswered (.ok data) s =
      if (selectorOf data).namesPage then readPage .startPage (selectorOf data) s
      else startFailed s (selectorOf data).sequence .badHeader 0xFF := by
  rw [← failStart_eq]
  simp [startSelectorAnswered, starting, kept]

theorem startPageAnswered_valid {x : ReadAnswer 8192} {p : Plan}
    (valid : judge s.run.pools s.plan.selectorSequence x = .valid p) : startPageAnswered x s = adoptFirst p s := by
  rw [startPageAnswered, if_neg (by simp [starting, kept]), valid]

theorem startPageAnswered_rejected {x : ReadAnswer 8192} {reason : Reason} {view : Byte}
    (rejected : judge s.run.pools s.plan.selectorSequence x = .rejected reason view) :
    startPageAnswered x s = startFailed s s.plan.selectorSequence reason view := by
  rw [startPageAnswered, if_neg (by simp [starting, kept]), rejected, ← failStart_eq]

end Starting

/-! ### The pool table -/

/-- An entry of the pool table that passes its check. -/
def poolEntryGood (anchor : DWord) (data : BitVec 512) (k : Nat) : Prop :=
  (data.extractLsb' (128 * k + 64) 32).toNat = 0
    ∨ (data.extractLsb' (128 * k + 64) 32).toNat ≤ 64 ∧ (data.extractLsb' (128 * k) 64).toNat % 16 = 0
      ∧ ((data.extractLsb' (128 * k) 64).toNat + 16 * (data.extractLsb' (128 * k + 64) 32).toNat ≤ anchor.toNat
        ∨ anchor.toNat + 4096 ≤ (data.extractLsb' (128 * k) 64).toNat)

theorem poolEntry_eq (anchor : DWord) (data : BitVec 512) (k : Nat) :
    poolEntry anchor data k =
      let array : DWord := data.extractLsb' (128 * k) 64
      let count := (data.extractLsb' (128 * k + 64) 32).toNat
      if count = 0 then .absent
      else if count ≤ 64 ∧ array.toNat % 16 = 0 ∧ clearOfControlBlock anchor array count = true then
        .present { address := array, count := count }
      else .bad := by
  have place : 8 * (16 * k + 8) = 128 * k + 64 := by omega
  rw [poolEntry, fieldAt, place]
  rfl

theorem poolEntry_isBad (anchor : DWord) (data : BitVec 512) (k : Nat) :
    (poolEntry anchor data k).isBad = false ↔ poolEntryGood anchor data k := by
  rw [poolEntry_eq]
  unfold poolEntryGood
  dsimp only
  generalize data.extractLsb' (128 * k) 64 = array
  generalize (data.extractLsb' (128 * k + 64) 32).toNat = count
  have clear : clearOfControlBlock anchor array count = true ↔
      array.toNat + 16 * count ≤ anchor.toNat ∨ anchor.toNat + 4096 ≤ array.toNat := by simp [clearOfControlBlock]
  split
  · next absent => simp [PoolEntry.isBad, absent]
  · next some =>
    rw [or_iff_right some, ← clear]
    split
    · next good => simp [PoolEntry.isBad, good]
    · next bad => simpa [PoolEntry.isBad] using bad

/-- The pool that an entry of a good table defines. -/
def poolOf (data : BitVec 512) (k : Nat) : Option PoolDefinition :=
  if (data.extractLsb' (128 * k + 64) 32).toNat = 0 then none
  else some { address := data.extractLsb' (128 * k) 64, count := (data.extractLsb' (128 * k + 64) 32).toNat }

theorem poolEntry_definition {anchor : DWord} {data : BitVec 512} {k : Nat} (good : poolEntryGood anchor data k) :
    (poolEntry anchor data k).definition = poolOf data k := by
  unfold poolOf
  have notBad := (poolEntry_isBad anchor data k).mpr good
  rw [poolEntry_eq] at notBad ⊢
  dsimp only at notBad ⊢
  split
  · rfl
  · next some =>
    rw [if_neg some] at notBad
    split
    · rfl
    · next bad =>
      rw [if_neg bad] at notBad
      cases notBad

theorem poolTable_good {anchor : DWord} {data : BitVec 512} (good : ∀ k, k < 4 → poolEntryGood anchor data k) :
    poolTable anchor data = some #v[poolOf data 0, poolOf data 1, poolOf data 2, poolOf data 3] := by
  have entry {k : Nat} (below : k < 4) : (poolEntry anchor data k).isBad = false := (poolEntry_isBad _ _ _).mpr (good k below)
  have pool {k : Nat} (below : k < 4) : (poolEntry anchor data k).definition = poolOf data k := poolEntry_definition (good k below)
  simp [poolTable, entry, pool]

theorem poolTable_bad {anchor : DWord} {data : BitVec 512} (bad : ¬∀ k, k < 4 → poolEntryGood anchor data k) :
    poolTable anchor data = none := by
  refine if_pos ?_
  obtain ⟨k, below, fails⟩ : ∃ k, k < 4 ∧ ¬poolEntryGood anchor data k := by simpa using bad
  have entry : (poolEntry anchor data k).isBad = true := by
    rw [← Bool.not_eq_false, poolEntry_isBad]
    exact fails
  interval_cases k <;> simp [entry]

/-! ### Plans at START -/

theorem adoptFirst_eq (p : Plan) :
    adoptFirst p s =
      { s with
        run := { s.run with progress := .adopted }
        plan :=
          { adopted := some p
            candidate := none
            fetch := .quiet
            selector := none
            discard := false
            remembered := if s.plan.remembered = some p.sequence then none else s.plan.remembered
            report := { s.plan.report with adoptedSequence := p.sequence, adoptionFrame := 0xFFFFFFFF } }
        allocations := p.allocations
        queue := s.joined .adoptionWord
        attention := { s.attention with flags := s.attention.flags ||| 0x0040 } } := by
  rw [adoptFirst, adoptPlan_eq]
  rfl

theorem Selector.namesPage_iff (x : Selector) : x.namesPage = true ↔ x.page = 0 ∨ x.page = 1 := by simp [Selector.namesPage]

/-! ### Fetches of a run -/

theorem selectorAnswered_discarded (x : ReadAnswer 64) (marked : s.plan.discard = true) : selectorAnswered x s = s.quietFetch := by
  simp [selectorAnswered, marked]

theorem selectorAnswered_error (kept : s.plan.discard = false) :
    selectorAnswered .error s = reportRejection 0 .readError 0xFF s.quietFetch := by
  simp [selectorAnswered, kept]

theorem selectorAnswered_ok (kept : s.plan.discard = false) (data : BitVec 64) :
    selectorAnswered (.ok data) s = takeSelector (selectorOf data) s := by
  simp [selectorAnswered, kept]

theorem pageAnswered_discarded (x : ReadAnswer 8192) (marked : s.plan.discard = true) : pageAnswered x s = s.quietFetch := if_pos marked

theorem pageAnswered_valid (kept : s.plan.discard = false) {x : ReadAnswer 8192} {p : Plan}
    (valid : judge s.run.pools s.plan.selectorSequence x = .valid p) : pageAnswered x s = makeCandidate p s.quietFetch := by
  rw [pageAnswered, if_neg (by simp [kept]), valid]

theorem pageAnswered_rejected (kept : s.plan.discard = false) {x : ReadAnswer 8192} {reason : Reason} {view : Byte}
    (rejected : judge s.run.pools s.plan.selectorSequence x = .rejected reason view) :
    pageAnswered x s = rejectPage s.plan.selectorSequence reason view s.quietFetch := by
  rw [pageAnswered, if_neg (by simp [kept]), rejected]

theorem PlanUnit.selectorSequence_eq {p : PlanUnit} {x : Selector} (selector : p.selector = some x) :
    p.selectorSequence = x.sequence := by
  rw [PlanUnit.selectorSequence, selector]

theorem PlanUnit.adoptedIs_iff (p : PlanUnit) (sequence : Word) :
    p.adoptedIs sequence = true ↔ ∃ x, p.adopted = some x ∧ x.sequence = sequence := by
  simp [PlanUnit.adoptedIs, Option.any_eq_true]

theorem PlanUnit.candidateIs_iff (p : PlanUnit) (sequence : Word) :
    p.candidateIs sequence = true ↔ ∃ x, p.candidate = some x ∧ x.sequence = sequence := by
  simp [PlanUnit.candidateIs, Option.any_eq_true]

/-- A judgement rejects for a transient or for a definitive reason. -/
theorem judge_reason {pools : Vector (Option PoolDefinition) 4} {sequence : Word} {x : ReadAnswer 8192} {reason : Reason} {view : Byte}
    (rejected : judge pools sequence x = .rejected reason view) :
    (reason = .readError ∨ reason = .tornPage) ∨ reason.definitive = true := by
  cases x with
  | error =>
    cases rejected
    exact .inl (.inl rfl)
  | ok page =>
    rw [judge, judgePage] at rejected
    split at rejected
    · cases rejected
      exact .inl (.inr rfl)
    · split at rejected
      · cases rejected
        exact .inr rfl
      · split at rejected
        · next reason' k first =>
          cases rejected
          obtain ⟨j, -, fault⟩ := List.exists_of_findSome?_eq_some first
          split at fault
          · obtain ⟨r, failed, pair⟩ := Option.map_eq_some_iff.mp fault
            cases pair
            unfold viewFault at failed
            dsimp only at failed
            split at failed
            · cases failed
              exact .inr rfl
            · split at failed
              · cases failed
                exact .inr rfl
              · cases failed
          · cases fault
        · split at rejected
          · cases rejected
            exact .inr rfl
          · cases rejected

/-! ### The ends of the bookkeeping writes -/

theorem enterRunning_eq :
    enterRunning s =
      { s with
        run := { s.run with state := .running, result := .started, progress := .none }
        scanners := s.run.pools.map fun d => { definition := d, cursor := 0, state := .ready, queue := [], service := none }
        receiver := { huntFrom s.receiver with lanes := s.run.lanesRead }
        queue := { s.queue with pointer := 0 } } := by
  rw [enterRunning, map4_eq]
  rfl

theorem adoptionWordAnswered_elsewhere (state : s.run.state ≠ .starting) : adoptionWordAnswered .ok s = s := if_pos state

end Sys2Proof.Machine

namespace Sys2Proof
open Sys2Proof.Machine

/-- Settles O37: the responses delivered to the run controller and to the tracker. -/
theorem bookkeepingEnds : Obligations.BookkeepingEnds := by
  refine ⟨fun s tag starting awaited => ⟨fun adopted => ?_, fun failed => ?_⟩, fun s tag live state awaited => ?_,
    fun s tag live awaited => exec_linkTallyResponse_live live .ok awaited⟩
  · rw [exec_adoptionWordResponse_live (live_of_starting starting) .ok awaited,
      adoptionWordAnswered_adopted (s.dropWrite tag) starting adopted, enterRunning_eq]
    rfl
  · rw [exec_adoptionWordResponse_live (live_of_starting starting) .ok awaited,
      adoptionWordAnswered_failed (s.dropWrite tag) starting failed]
    rfl
  · rw [exec_adoptionWordResponse_live live .ok awaited, adoptionWordAnswered_elsewhere (s.dropWrite tag) state]

/-- Settles O33: the link word and the pool table, good or not. -/
theorem startReadsChecked : Obligations.StartReadsChecked := by
  refine ⟨fun s tag data starting awaited => ⟨fun lanes => ?_, fun lanes => ?_⟩,
    fun s tag data starting awaited => ⟨fun good => ?_, fun bad => ?_⟩⟩
  · rw [exec_linkWordAnswer_live (live_of_starting starting) _ awaited, linkWordAnswered_ok (s := s.dropPort tag) starting, if_pos lanes]
    rfl
  · rw [exec_linkWordAnswer_live (live_of_starting starting) _ awaited, linkWordAnswered_ok (s := s.dropPort tag) starting, if_neg lanes]
  · rw [exec_poolTableAnswer_live (live_of_starting starting) _ awaited,
      poolTableAnswered_some (s := s.dropPort tag) starting (poolTable_good good)]
    rfl
  · rw [exec_poolTableAnswer_live (live_of_starting starting) _ awaited,
      poolTableAnswered_none (s := s.dropPort tag) starting (poolTable_bad bad)]

/-- Settles O34: the selector names a page or not, and the page is judged. -/
theorem startPlanReads : Obligations.StartPlanReads := by
  refine ⟨fun s tag data starting kept awaited => ⟨fun names => ?_, fun names => ?_⟩,
    fun s tag answer x starting kept selector awaited => ?_⟩
  · rw [exec_startSelectorAnswer_live (live_of_starting starting) _ awaited,
      startSelectorAnswered_ok (s := s.dropPort tag) starting kept, if_pos ((Selector.namesPage_iff (selectorOf data)).mpr names),
      readPage_eq (s.dropPort tag) (live_of_starting starting)]
    rfl
  · rw [exec_startSelectorAnswer_live (live_of_starting starting) _ awaited,
      startSelectorAnswered_ok (s := s.dropPort tag) starting kept, if_neg (mt (Selector.namesPage_iff (selectorOf data)).mp names)]
    rfl
  · intro t
    have sequence : t.plan.selectorSequence = x.sequence := PlanUnit.selectorSequence_eq selector
    rw [← sequence]
    refine ⟨fun p valid => ⟨p.allocations, p.allocations_laidOut, ?_⟩, fun reason view rejected => ?_⟩
    · rw [exec_startPageAnswer_live (live_of_starting starting) answer awaited,
        startPageAnswered_valid (s := t) starting kept valid, adoptFirst_eq]
      rfl
    · rw [exec_startPageAnswer_live (live_of_starting starting) answer awaited,
        startPageAnswered_rejected (s := t) starting kept rejected]

/-- Settles O38: the cases of Table 3-3 in their order. -/
theorem runningSelectorJudged : Obligations.RunningSelectorJudged := by
  refine ⟨fun s tag answer live marked awaited => ?_, fun s tag live kept awaited => ?_, fun s tag data live kept awaited => ?_⟩
  · rw [exec_selectorAnswer_live live _ awaited, selectorAnswered_discarded (s.dropPort tag) _ marked]
    rfl
  · rw [exec_selectorAnswer_live live _ awaited, selectorAnswered_error (s.dropPort tag) kept, reportRejection_eq]
    rfl
  · intro t x adopted pending remembered names result
    have run : result = .next (takeSelector x t) :=
      (exec_selectorAnswer_live live _ awaited).trans (congrArg _ (selectorAnswered_ok t kept data))
    have adoptedIff : t.plan.adoptedIs x.sequence = true ↔ adopted := t.plan.adoptedIs_iff _
    have pendingIff : t.plan.candidateIs x.sequence = true ↔ pending := t.plan.candidateIs_iff _
    have rememberedIff : t.plan.remembered = some x.sequence ↔ remembered := Iff.rfl
    have discarded : adopted ∨ ¬pending ∧ remembered → result = .next (discardCandidate t.quietFetch) := by
      rw [run, takeSelector]
      rintro (first | ⟨second, third⟩)
      · rw [if_pos (adoptedIff.mpr first)]
      · by_cases first : adopted
        · rw [if_pos (adoptedIff.mpr first)]
        · rw [if_neg (mt adoptedIff.mp first), if_neg (mt pendingIff.mp second), if_pos (rememberedIff.mpr third)]
    refine ⟨fun known => ⟨fun none => ?_, fun some => ?_⟩, fun first second => ?_, fun first second third fourth => ?_,
      fun first second third fourth => ?_⟩
    · have quiet : discardCandidate t.quietFetch = t.quietFetch := by
        have noPlan : t.quietFetch.plan.candidate = Option.none := none
        rw [discardCandidate, noPlan]
      rw [discarded known, quiet]
      rfl
    · have pendingPlan : t.quietFetch.plan.candidate ≠ Option.none := some
      rw [discarded known, discardCandidate_eq, if_neg pendingPlan]
      rfl
    · rw [run, takeSelector, if_neg (mt adoptedIff.mp first), if_pos (pendingIff.mpr second)]
      rfl
    · rw [run, takeSelector, if_neg (mt adoptedIff.mp first), if_neg (mt pendingIff.mp second), if_neg (mt rememberedIff.mp third),
        if_neg (mt (Selector.namesPage_iff x).mp fourth), reportRejection_discardCandidate _ _ _ rfl]
      rfl
    · rw [run, takeSelector, if_neg (mt adoptedIff.mp first), if_neg (mt pendingIff.mp second), if_neg (mt rememberedIff.mp third),
        if_pos ((Selector.namesPage_iff x).mpr fourth), readPage_eq t live]
      rfl

/-- Settles O39: the judgement of the page, and its rejection by the kind of its reason. -/
theorem runningPageJudged : Obligations.RunningPageJudged := by
  refine ⟨fun s tag answer live marked awaited => ?_, fun s tag answer x live kept selector awaited => ?_⟩
  · rw [exec_pageAnswer_live live _ awaited, pageAnswered_discarded (s.dropPort tag) _ marked]
    rfl
  · intro t
    have sequence : t.plan.selectorSequence = x.sequence := PlanUnit.selectorSequence_eq selector
    rw [← sequence]
    refine ⟨fun p valid => ?_, fun reason view rejected => ⟨fun transient => ?_, fun definitive => ?_⟩⟩
    · rw [exec_pageAnswer_live live answer awaited, pageAnswered_valid t kept valid]
      simp only [makeCandidate]
      rw [discardCandidate_eq]
      rfl
    · have kinds : reason.definitive = false ∧ reason.transient = true := by rcases transient with rfl | rfl <;> exact ⟨rfl, rfl⟩
      rw [exec_pageAnswer_live live answer awaited, pageAnswered_rejected t kept rejected]
      simp only [rejectPage]
      rw [kinds.1, if_neg Bool.noConfusion, reportRejection_eq, kinds.1, kinds.2]
      rfl
    · have kind := (judge_reason rejected).resolve_left definitive
      rw [exec_pageAnswer_live live answer awaited, pageAnswered_rejected t kept rejected]
      simp only [rejectPage]
      rw [kind, if_pos rfl, reportRejection_discardCandidate _ _ _ kind]
      rfl

end Sys2Proof
end

section
/-! The scanners: slots visited, passed, claimed, and the pool that faults (02 R38 to R45; 06 R102, R108). -/

namespace Sys2Proof.Machine

variable (s : State)

/-! ### Rules for channels and scanners in place -/

theorem State.withFrame_some {k : ViewId} {v : ViewFrame} (frame : (s.channel k).frame = some v) (f : ViewFrame → State) :
    s.withFrame k f = f v := by
  rw [State.withFrame, frame]

theorem State.withFrame_none {k : ViewId} (frame : (s.channel k).frame = none) (f : ViewFrame → State) : s.withFrame k f = s := by
  rw [State.withFrame, frame]

theorem State.withService_some {p : PoolId} {d : PoolDefinition} {v : ClaimService} (definition : (s.scanner p).definition = some d)
    (service : (s.scanner p).service = some v) (f : PoolDefinition → ClaimService → State) : s.withService p f = f d v := by
  rw [State.withService, definition, service]

theorem State.setScanner_setScanner (p : PoolId) (x y : Scanner) : (s.setScanner p x).setScanner p y = s.setScanner p y := by
  simp [State.setScanner]

theorem State.slotAddress_eq {p : PoolId} {d : PoolDefinition} (definition : (s.scanner p).definition = some d) (index : Nat) :
    s.slotAddress p index = d.address + BitVec.ofNat 64 (16 * index) := by
  rw [State.slotAddress, definition]

theorem State.exchanges_live (live : s.live) (role : PortRole) (x : Slot) (code : Byte) :
    s.exchanges role x code =
      { s with
        port := s.issued role (.compareExchange (s.slotAddress x.pool x.index) x.word (recoded x.word code)) } := if_pos live

/-! ### Slots visited -/

section Visits

variable {s} {p : PoolId} {d : PoolDefinition} (live : s.live)

include live

/-- A scanner keeps its definition and issues a transaction on the slot of its service. -/
theorem issue_setScanner (service : Option ClaimService) (role : PortRole) (access : PortAccess) :
    (s.setScanner p { s.scanner p with service := service }).issue role access =
      { s with
        scanners := s.scanners.set p { s.scanner p with service := service }
        port := s.issued role access } :=
  State.issue_eq (s.setScanner p { s.scanner p with service := service }) (s.halted_of_live live) role access

variable (definition : (s.scanner p).definition = some d)

include definition

theorem visitSlot_eq (v : ClaimService) :
    visitSlot p v s =
      { s with
        scanners := s.scanners.set p { s.scanner p with service := some { v with slot := none } }
        port := s.issued (.slotRead p) (.read (d.address + BitVec.ofNat 64 (16 * v.index)) 16) } := by
  rw [visitSlot, issue_setScanner live, s.slotAddress_eq definition]

theorem scannerExchange_eq (role : PortRole) (v : ClaimService) (r : BitVec 128) (next : SlotState) :
    scannerExchange p role v r next s =
      { s with
        scanners := s.scanners.set p { s.scanner p with service := some { v with slot := some r } }
        port :=
          s.issued role
            (.compareExchange (d.address + BitVec.ofNat 64 (16 * v.index)) (r.extractLsb' 0 32)
              (claimWord next.code v.request.view v.request.tag)) } := by
  rw [scannerExchange, issue_setScanner live, s.slotAddress_eq definition]
  rfl

end Visits

theorem startService_ready {p : PoolId} {d : PoolDefinition} {r : ClaimRequest} {rest : List ClaimRequest} (live : s.live)
    (ready : s.serveReady p) (queue : (s.scanner p).queue = r :: rest) (definition : (s.scanner p).definition = some d) :
    startService p s =
      { s with
        scanners :=
          s.scanners.set p
            { s.scanner p with
              queue := rest, service := some { request := r, index := (s.scanner p).cursor, visited := 0, slot := none } }
        port := s.issued (.slotRead p) (.read (d.address + BitVec.ofNat 64 (16 * (s.scanner p).cursor)) 16) } := by
  have taken : ((s.setScanner p { s.scanner p with queue := rest }).scanner p) = { s.scanner p with queue := rest } :=
    s.scanner_setScanner_same p _
  have visit := visitSlot_eq (s := s.setScanner p { s.scanner p with queue := rest }) (p := p) (d := d) live
    (by rw [taken]; exact definition) { request := r, index := (s.scanner p).cursor, visited := 0, slot := none }
  rw [taken] at visit
  rw [startService, queue]
  dsimp only
  rw [if_pos ((s.canServe_iff p).mpr ready), visit]
  simp [State.setScanner, State.issued]

theorem startService_idle {p : PoolId} (idle : ¬s.serveReady p) : startService p s = s := by
  unfold startService
  split
  · rfl
  · exact if_neg (mt (s.canServe_iff p).mp idle)

/-! ### The record of a slot -/

theorem recordWord_code (r : BitVec 128) : (recordWord r).extractLsb' 0 8 = r.extractLsb' 0 8 := by
  apply BitVec.eq_of_getLsbD_eq
  intro i below
  simp [recordWord, below]

theorem recordWord_offered (r : BitVec 128) : slotState (recordWord r) = .offered ↔ r.extractLsb' 0 8 = 0x01 := by
  rw [← (slotState_codes (recordWord r)).1, recordWord_code, ← BitVec.toNat_inj]
  rfl

theorem slotFits_iff (r : BitVec 128) (needed : Nat) : slotFits r needed = true ↔
    needed ≤ (r.extractLsb' 32 32).toNat ∧ (r.extractLsb' 64 64).toNat % 64 = 0 := by
  rw [slotFits, Bool.and_eq_true, decide_eq_true_eq, decide_eq_true_eq]
  rfl

/-! ### Claims that fail -/

/-- A view frame whose claim is no longer in flight, as its closing step leaves it. -/
def ViewFrame.unclaimed (v : ViewFrame) : ViewFrame :=
  { v with claimInFlight := false, accumulator := [], present := [], staging := [], closing := true }

section ClaimFails

variable {s} {k : ViewId} {v : ViewFrame} (x : OutcomeCause)

theorem claimFailed_claiming (frame : (s.channel k).frame = some v) (inFlight : v.claimInFlight = true)
    (claiming : (s.channel k).state = .claiming) :
    claimFailed x k s =
      { s with
        channels :=
          s.channels.set k
            { state := .returning
              frame := some { v.unclaimed with copy := v.copy.withdrawn }
              tally := (s.channel k).tally.count v.frameNumber .skipped x }
        queue := s.joined (.viewTally k)
        attention := { s.attention with flags := s.attention.flags ||| 0x0004 } } := by
  let left : State := s.moveChannel k .returning ({ v with claimInFlight := false } : ViewFrame).dropped
  have closed : claimFailed x k s = closeFrame k .skipped x (left.raise .frameSkipped) := by
    rw [claimFailed, s.withFrame_some frame, if_neg (by simp [inFlight]), claiming]
  have standing : ((left.raise .frameSkipped).channel k) =
      { s.channel k with state := .returning, frame := some ({ v with claimInFlight := false } : ViewFrame).dropped } := by
    rw [State.channel_raise, State.channel_moveChannel_same]
  rw [closed, closeFrame_eq (left.raise .frameSkipped) (by rw [standing]), standing]
  simp [left, State.moveChannel, State.setChannel, State.raise, State.joined, State.waitingFor, ViewFrame.unclaimed,
    ViewFrame.dropped, ViewFrame.discarded, AttentionCause.mask, AttentionCause.bit]

theorem claimFailed_returning (frame : (s.channel k).frame = some v) (inFlight : v.claimInFlight = true)
    (returning : (s.channel k).state = .returning) :
    claimFailed x k s =
      { s with
        channels :=
          s.channels.set k
            { state := .returning
              frame := some v.unclaimed
              tally := (s.channel k).tally.count v.frameNumber .skipped (v.abandoned.getD x) }
        queue := s.joined (.viewTally k) } := by
  let left : State := s.setFrame k { v with claimInFlight := false }
  have closed : claimFailed x k s = closeFrame k .skipped (v.abandoned.getD x) left := by
    rw [claimFailed, s.withFrame_some frame, if_neg (by simp [inFlight]), returning]
  have standing : (left.channel k) = { s.channel k with frame := some { v with claimInFlight := false } } :=
    s.channel_setFrame_same k _
  rw [closed, closeFrame_eq left (by rw [standing]), standing]
  simp [left, State.setFrame, State.setChannel, State.joined, State.waitingFor, ViewFrame.unclaimed, ViewFrame.discarded, returning]

/-- A claim that is not in flight at a CLAIMING or RETURNING channel does not fail. -/
theorem claimFailed_elsewhere
    (elsewhere : ∀ v, (s.channel k).frame = some v → v.claimInFlight = true →
      (s.channel k).state ≠ .claiming ∧ (s.channel k).state ≠ .returning) : claimFailed x k s = s := by
  cases frame : (s.channel k).frame with
  | none => exact s.withFrame_none frame _
  | some v =>
    rw [claimFailed, s.withFrame_some frame]
    split
    · rfl
    · next inFlight =>
      obtain ⟨notClaiming, notReturning⟩ := elsewhere v frame (by simpa using inFlight)
      dsimp only
      split
      · next claiming => exact absurd claiming notClaiming
      · next returning => exact absurd returning notReturning
      all_goals rfl

end ClaimFails

/-- What a failed claim does, case by case: nothing, or a closing step, with FRAME_SKIPPED for a CLAIMING channel. -/
theorem claimFailed_cases (x : OutcomeCause) (k : ViewId) :
    (¬s.skips k ∧ claimFailed x k s = s)
      ∨ (∃ c : Channel, ¬s.skips k
          ∧ claimFailed x k s = { s with channels := s.channels.set k c, queue := s.joined (.viewTally k) })
      ∨ ∃ c : Channel, s.skips k
          ∧ claimFailed x k s =
            { s with
              channels := s.channels.set k c
              queue := s.joined (.viewTally k)
              attention := { s.attention with flags := s.attention.flags ||| 0x0004 } } := by
  by_cases skips : s.skips k
  · obtain ⟨claiming, v, frame, inFlight⟩ := skips
    exact .inr (.inr ⟨_, ⟨claiming, v, frame, inFlight⟩, claimFailed_claiming x frame inFlight claiming⟩)
  · by_cases fails : ∃ v, (s.channel k).frame = some v ∧ v.claimInFlight = true ∧ (s.channel k).state = .returning
    · obtain ⟨v, frame, inFlight, returning⟩ := fails
      exact .inr (.inl ⟨_, skips, claimFailed_returning x frame inFlight returning⟩)
    · refine .inl ⟨skips, claimFailed_elsewhere x fun v frame inFlight => ⟨fun claiming => ?_, fun returning => ?_⟩⟩
      · exact skips ⟨claiming, v, frame, inFlight⟩
      · exact fails ⟨v, frame, inFlight, returning⟩

@[simp] theorem claimFailed_scanners (x : OutcomeCause) (k : ViewId) : (claimFailed x k s).scanners = s.scanners := by
  rcases claimFailed_cases s x k with ⟨-, run⟩ | ⟨c, -, run⟩ | ⟨c, -, run⟩ <;> rw [run]

@[simp] theorem claimFailed_port (x : OutcomeCause) (k : ViewId) : (claimFailed x k s).port = s.port := by
  rcases claimFailed_cases s x k with ⟨-, run⟩ | ⟨c, -, run⟩ | ⟨c, -, run⟩ <;> rw [run]

theorem claimFailed_attention_skips (x : OutcomeCause) {k : ViewId} (skips : s.skips k) :
    (claimFailed x k s).attention = { s.attention with flags := s.attention.flags ||| 0x0004 } := by
  obtain ⟨claiming, v, frame, inFlight⟩ := skips
  rw [claimFailed_claiming x frame inFlight claiming]

theorem claimFailed_attention_keeps (x : OutcomeCause) {k : ViewId} (keeps : ¬s.skips k) :
    (claimFailed x k s).attention = s.attention := by
  rcases claimFailed_cases s x k with ⟨-, run⟩ | ⟨c, -, run⟩ | ⟨c, skips, -⟩
  · rw [run]
  · rw [run]
  · exact absurd skips keeps

theorem waitingFor_joined (r : Request) : (s.joined r).requests.any r.same = true := by
  have asked := s.waitingFor_ask r r.same_self
  rw [State.ask_eq] at asked
  exact asked

theorem flagged_frameSkipped {flags : BitVec 14} (t : State) (raised : t.attention.flags = flags ||| 0x0004) :
    t.flagged .frameSkipped = true := by
  rw [State.flagged_iff, raised]
  simp [AttentionCause.bit]

/-- A failed claim, as its channel takes it. -/
theorem claimFailed_fails (x : OutcomeCause) (k : ViewId) : ClaimFails x k s (claimFailed x k s) where
  claiming v frame inFlight claiming := by
    have run := claimFailed_claiming x frame inFlight claiming
    refine ⟨⟨{ v.unclaimed with copy := v.copy.withdrawn }, ?_, rfl, rfl, rfl, rfl, rfl⟩, ?_, flagged_frameSkipped _ (by rw [run])⟩
    · rw [run]
      simp [State.channel]
    · rw [run]
      exact waitingFor_joined s _
  returning v cause frame inFlight returning abandoned := by
    have run := claimFailed_returning x frame inFlight returning
    rw [abandoned] at run
    refine ⟨⟨v.unclaimed, ?_, rfl, rfl, rfl, rfl, rfl⟩, ?_⟩
    · rw [run]
      simp [State.channel]
    · rw [run]
      exact waitingFor_joined s _

/-- Who else does not tell two states apart finds the same failure in them. -/
theorem ClaimFails.of_channel {x : OutcomeCause} {k : ViewId} {s s' t t' : State} (h : ClaimFails x k s t)
    (before : s'.channel k = s.channel k) (after : t'.channel k = t.channel k)
    (waiting : t.waitingFor (.viewTally k) = true → t'.waitingFor (.viewTally k) = true)
    (flagged : t.flagged .frameSkipped = true → t'.flagged .frameSkipped = true) : ClaimFails x k s' t' where
  claiming v frame inFlight claiming := by
    rw [before] at frame claiming
    obtain ⟨channel, asked, raised⟩ := h.claiming v frame inFlight claiming
    rw [before, after]
    exact ⟨channel, waiting asked, flagged raised⟩
  returning v cause frame inFlight returning abandoned := by
    rw [before] at frame returning
    obtain ⟨channel, asked⟩ := h.returning v cause frame inFlight returning abandoned
    rw [before, after]
    exact ⟨channel, waiting asked⟩

/-! ### Slots passed -/

/-- A passed slot leads to the next, or after a round to the failure of the claim. -/
theorem passSlot_passes {p : PoolId} {d : PoolDefinition} (live : s.live) (definition : (s.scanner p).definition = some d)
    (v : ClaimService) : PassesSlot p d v s (passSlot p d v s) where
  onward more := by
    rw [passSlot, if_pos more, visitSlot_eq live definition]
    rfl
  starved last := by
    have run : passSlot p d v s = claimFailed .starved v.request.view (endService p s) := if_neg (Nat.not_lt.mpr last)
    have same := claimFailed_same (endService p s) .starved v.request.view
    have skips : (endService p s).skips v.request.view ↔ s.skips v.request.view := Iff.rfl
    have scanners : (passSlot p d v s).scanners = (endService p s).scanners := by rw [run, claimFailed_scanners]
    refine ⟨?_, ?_, fun q other => ?_, fun j other => ?_, ?_, ?_, fun raised => ?_, fun kept => ?_, ?_⟩
    · rw [State.scanner_of_scanners scanners]
      exact s.scanner_setScanner_same p _
    · rw [run]
      exact (claimFailed_fails (endService p s) .starved v.request.view).of_channel rfl rfl id id
    · rw [State.scanner_of_scanners scanners]
      exact s.scanner_setScanner_other other _
    · rw [run, claimFailed_other _ other]
      rfl
    · rw [run, same.entries]
      rfl
    · rw [run, same.pointer]
      rfl
    · rw [run, claimFailed_attention_skips _ _ (skips.mpr raised)]
      rfl
    · rw [run, claimFailed_attention_keeps _ _ (mt skips.mp kept)]
      rfl
    · rw [run]
      simp only [same.run, same.timebase, same.receiver, same.tracker, same.plan, same.allocations, same.pending, claimFailed_port]
      rfl

end Sys2Proof.Machine

namespace Sys2Proof
open Sys2Proof.Machine

/-- Settles O43: a claim begun, and a slot claimed or refused. -/
theorem scannerVisitsSlots : Obligations.ScannerVisitsSlots := by
  refine ⟨fun s p d r rest running ready waiting queue definition => ?_, fun s p idle => ?_,
    fun s tag p d v r live definition service awaited offered => ?_⟩
  · have live : s.live := by rcases running with h | h | h <;> simp [State.live, h]
    have serve : s.serveReady p := ⟨running, ready, waiting, by simp [queue], by simp [definition]⟩
    exact congrArg _ (startService_ready s live serve queue definition)
  · refine congrArg _ (startService_idle s ?_)
    rintro ⟨running, ready, waiting, queued, defined⟩
    rcases idle with other | faulted | busy | empty | absent
    · exact other running
    · rw [ready] at faulted
      cases faulted
    · exact busy waiting
    · exact queued empty
    · exact defined absent
  · intro t fits scanners place
    have visited : exec (.slotReadAnswer tag (.ok r)) s =
        .next (if slotFits r v.request.needed then scannerExchange p (.claim p) v r .taken t
          else scannerExchange p (.refusal p) v r .refused t) := by
      rw [exec_slotReadAnswer_live live _ awaited, slotReadAnswered,
        State.withService_some (s.dropPort tag) definition service, if_neg (not_not.mpr ((recordWord_offered r).mpr offered))]
    refine ⟨fun claims => ?_, fun refuses => ?_⟩
    · rw [visited, if_pos ((slotFits_iff r _).mpr claims), scannerExchange_eq (s := t) live definition]
      rfl
    · rw [visited, if_neg (mt (slotFits_iff r _).mp refuses), scannerExchange_eq (s := t) live definition]
      rfl

/-- Settles O44: each answer that passes a slot passes it alike. -/
theorem slotsPassed : Obligations.SlotsPassed := by
  intro s tag p d v live definition service u
  refine ⟨fun r awaited held => ⟨_, ?_, passSlot_passes u live definition v⟩,
    fun awaited => ⟨_, ?_, passSlot_passes u live definition v⟩,
    fun awaited => ⟨⟨_, ?_, passSlot_passes u live definition v⟩, _, ?_, passSlot_passes (u.raise .slotRefused) live definition v⟩⟩
  · rw [exec_slotReadAnswer_live live _ awaited, slotReadAnswered, State.withService_some u definition service,
      if_pos (mt (recordWord_offered r).mp held)]
  · rw [exec_claimAnswer_live live _ awaited, claimAnswered, State.withService_some u definition service]
  · rw [exec_refusalAnswer_live live _ awaited, refusalAnswered, State.withService_some u definition service]
  · rw [exec_refusalAnswer_live live _ awaited, refusalAnswered, State.withService_some u definition service]

end Sys2Proof
end

section
/-! A claim won, a pool that faults, and the answers to a channel (02 R30 to R32, R42, R44; 06 R103, R107 to R109). -/

namespace Sys2Proof.Machine

variable (s : State)

/-! ### A claim won -/

section ClaimWon

variable {s} {k : ViewId} {f : ViewFrame} {x : Slot} (live : s.live) (frame : (s.channel k).frame = some f)
  (inFlight : f.claimInFlight = true) (notIssued : f.firstWrite = .notIssued)

/-- The view frame with the slot it won. -/
def ViewFrame.holding (f : ViewFrame) (x : Slot) : ViewFrame := { f with claimInFlight := false, slot := some x }

include frame inFlight

theorem claimSucceeded_claiming (claiming : (s.channel k).state = .claiming) :
    claimSucceeded k x s = (s.put k .active (f.holding x)).advances k := by
  rw [← advanceActive_eq, claimSucceeded, s.withFrame_some frame, if_neg (by simp [inFlight]), claiming]
  rfl

include live

theorem claimSucceeded_returning (returning : (s.channel k).state = .returning) :
    claimSucceeded k x s =
      { s with
        channels := s.channels.set k { s.channel k with state := .returning, frame := some (f.holding x) }
        port := s.issued (.giveBack k) (.compareExchange (s.slotAddress x.pool x.index) x.word (recoded x.word 0x01)) } := by
  have returned : claimSucceeded k x s = (s.put k .returning (f.holding x)).exchangeSlot (.giveBack k) x .offered := by
    rw [claimSucceeded, s.withFrame_some frame, if_neg (by simp [inFlight]), returning]
    rfl
  rw [returned, State.exchangeSlot_eq, State.exchanges_live (s.put k .returning (f.holding x)) live]
  rfl

include notIssued

/-- A CLAIMING channel with something to write issues its first write at once. -/
theorem claimSucceeded_work (claiming : (s.channel k).state = .claiming) (work : f.copy = .due ∨ f.staging ≠ []) :
    claimSucceeded k x s =
      { s with
        channels :=
          s.channels.set k
            { s.channel k with
              state := if f.windowComplete then .flushing else .active
              frame := some { f.holding x with firstWrite := .outstanding } }
        port := s.issued (.firstWrite k) (.compareExchange (s.slotAddress x.pool x.index) x.word (recoded x.word 0x03)) } := by
  have advanced : (s.put k .active (f.holding x)).advances k =
      ((s.put k .active (f.holding x)).put k (if f.windowComplete then .flushing else .active)
        { f.holding x with firstWrite := .outstanding }).exchanges (.firstWrite k) x 0x03 := by
    unfold State.advances
    rw [State.channel_put_same]
    exact if_pos ⟨rfl, notIssued, work⟩
  rw [claimSucceeded_claiming frame inFlight claiming, advanced, State.put_put,
    State.exchanges_live (s.put k _ { f.holding x with firstWrite := .outstanding }) live]
  rfl

omit live in
theorem claimSucceeded_idle (claiming : (s.channel k).state = .claiming) (idle : ¬(f.copy = .due ∨ f.staging ≠ [])) :
    claimSucceeded k x s =
      { s with channels := s.channels.set k { s.channel k with state := .active, frame := some (f.holding x) } } := by
  have advanced : (s.put k .active (f.holding x)).advances k = s.put k .active (f.holding x) := by
    unfold State.advances
    rw [State.channel_put_same]
    exact (if_neg fun now => idle now.2.2).trans (if_neg fun now => now.2.2 notIssued)
  rw [claimSucceeded_claiming frame inFlight claiming, advanced]
  rfl

end ClaimWon

/-! ### A pool that faults -/

/-- What the failures of a faulted pool's claims leave alone, and what they only add to. -/
structure State.FailsClaims (s t : State) : Prop where
  same : s.SameBlocks t
  scanners : t.scanners = s.scanners
  port : t.port = s.port
  waiting : ∀ r, s.waitingFor r = true → t.waitingFor r = true
  flags : t.attention = s.attention ∨ t.attention = { s.attention with flags := s.attention.flags ||| 0x0004 }

namespace State.FailsClaims

theorem refl (s : State) : s.FailsClaims s := ⟨.refl s, rfl, rfl, fun _ => id, .inl rfl⟩

theorem trans {s t u : State} (h : s.FailsClaims t) (g : t.FailsClaims u) : s.FailsClaims u := by
  refine ⟨h.same.trans g.same, g.scanners.trans h.scanners, g.port.trans h.port, fun r waiting => g.waiting r (h.waiting r waiting), ?_⟩
  rcases h.flags with same | raised
  · rw [← same]
    exact g.flags
  · rcases g.flags with same' | raised'
    · exact .inr (same'.trans raised)
    · refine .inr (raised'.trans ?_)
      rw [raised, BitVec.or_assoc, BitVec.or_self]

theorem flagged {s t : State} (h : s.FailsClaims t) (raised : s.flagged .frameSkipped = true) : t.flagged .frameSkipped = true := by
  rw [State.flagged_iff] at raised ⊢
  rcases h.flags with same | more
  · rw [same]
    exact raised
  · rw [more, BitVec.getLsbD_or, raised, Bool.true_or]

end State.FailsClaims

theorem claimFailed_failsClaims (x : OutcomeCause) (k : ViewId) : s.FailsClaims (claimFailed x k s) where
  same := claimFailed_same s x k
  scanners := claimFailed_scanners s x k
  port := claimFailed_port s x k
  waiting r waiting := by
    rcases claimFailed_requests s x k with same | more
    · rw [State.waitingFor, same]
      exact waiting
    · rw [State.waitingFor, more, List.any_append, Bool.or_eq_true]
      exact .inl waiting
  flags := by
    by_cases skips : s.skips k
    · exact .inr (claimFailed_attention_skips s x skips)
    · exact .inl (claimFailed_attention_keeps s x skips)

/-- The claim of a view fails, if it is among the claimants. -/
def failClaimant (failing : List ViewId) (k : ViewId) (s : State) : State :=
  if failing.contains k then claimFailed .poolFault k s else s

/-- The pool of a scanner marked FAULTED, before its claims fail. -/
def State.poolFaulted (s : State) (p : PoolId) : State :=
  (s.setScanner p { s.scanner p with state := .faulted, queue := [], service := none }).raise .poolFault

theorem faultPool_eq (p : PoolId) : faultPool p s = (s.poolFaulted p).eachView (failClaimant (s.scanner p).claimants) := rfl

section FailClaimant

variable (failing : List ViewId)

theorem failClaimant_failsClaims (k : ViewId) (t : State) : t.FailsClaims (failClaimant failing k t) := by
  unfold failClaimant
  split
  · exact claimFailed_failsClaims t _ _
  · exact .refl t

theorem failClaimant_other {i j : ViewId} (t : State) (other : j ≠ i) : (failClaimant failing i t).channel j = t.channel j := by
  unfold failClaimant
  split
  · exact claimFailed_other t other _
  · rfl

/-- What the failures make of channel k: what they make of it alone. -/
theorem eachView_failClaimant (k : ViewId) :
    ∃ t, s.FailsClaims t ∧ t.channel k = s.channel k
      ∧ (failClaimant failing k t).FailsClaims (s.eachView (failClaimant failing))
      ∧ (s.eachView (failClaimant failing)).channel k = (failClaimant failing k t).channel k :=
  s.eachView_channel _ State.FailsClaims State.FailsClaims.refl (fun _ _ _ => State.FailsClaims.trans)
    (failClaimant_failsClaims failing) (fun _ _ t => failClaimant_other failing t) k

theorem eachView_failClaimant_failsClaims : s.FailsClaims (s.eachView (failClaimant failing)) := by
  obtain ⟨t, before, -, after, -⟩ := eachView_failClaimant s failing 0
  exact (before.trans (failClaimant_failsClaims failing 0 t)).trans after

/-- Whether a channel's failure would raise FRAME_SKIPPED is told by the channel alone. -/
theorem State.skips_of_channel {s t : State} {k : ViewId} (same : t.channel k = s.channel k) : t.skips k ↔ s.skips k := by
  rw [State.skips, State.skips, same]

/-- FRAME_SKIPPED is raised if the view frame of a claimant is skipped. -/
theorem eachView_failClaimant_skips {k : ViewId} (claimant : k ∈ failing) (skips : s.skips k) :
    (s.eachView (failClaimant failing)).attention = { s.attention with flags := s.attention.flags ||| 0x0004 } := by
  obtain ⟨t, before, same, after, -⟩ := eachView_failClaimant s failing k
  have run : failClaimant failing k t = claimFailed .poolFault k t := if_pos (List.contains_iff_mem.mpr claimant)
  have raised := claimFailed_attention_skips t .poolFault ((State.skips_of_channel same).mpr skips)
  rw [← run] at raised
  have there : (failClaimant failing k t).attention = { s.attention with flags := s.attention.flags ||| 0x0004 } := by
    rcases before.flags with kept | more
    · rw [raised, kept]
    · rw [raised, more, BitVec.or_assoc, BitVec.or_self]
  rcases after.flags with kept | more
  · rw [kept, there]
  · rw [more, there, BitVec.or_assoc, BitVec.or_self]

/-- With no view frame skipped nothing more is raised. -/
theorem eachView_failClaimant_keeps (keeps : ∀ k ∈ failing, ¬s.skips k) :
    (s.eachView (failClaimant failing)).attention = s.attention := by
  suffices ∀ (views : List ViewId) (t : State), views.Nodup → (∀ k ∈ views, k ∈ failing → ¬t.skips k) →
      (views.foldl (fun t k => failClaimant failing k t) t).attention = t.attention from
    this allViews s (by decide) fun k _ => keeps k
  intro views
  induction views with
  | nil => exact fun _ _ _ => rfl
  | cons k views ih =>
    intro t distinct kept
    rw [List.nodup_cons] at distinct
    have first : (failClaimant failing k t).attention = t.attention := by
      unfold failClaimant
      split
      · next claimant => exact claimFailed_attention_keeps t _ (kept k List.mem_cons_self (List.contains_iff_mem.mp claimant))
      · rfl
    rw [List.foldl_cons, ih _ distinct.2 fun j inViews claimant => ?_, first]
    have other : j ≠ k := fun same => distinct.1 (same ▸ inViews)
    rw [State.skips_of_channel (failClaimant_other failing t other)]
    exact kept j (List.mem_cons_of_mem _ inViews) claimant

end FailClaimant

theorem Scanner.mem_claimants (x : Scanner) (k : ViewId) :
    k ∈ x.claimants ↔ (∃ v, x.service = some v ∧ v.request.view = k) ∨ ∃ r ∈ x.queue, r.view = k := by
  unfold Scanner.claimants
  cases x.service <;> simp [eq_comm]

end Sys2Proof.Machine

namespace Sys2Proof
open Sys2Proof.Machine

/-- Settles O45: a claim exchanged, by the state of its channel. -/
theorem claimWon : Obligations.ClaimWon := by
  intro s tag p d v r f live definition service record awaited k frame inFlight notIssued word held t place work
  have won : exec (.claimAnswer tag .exchanged) s = .next (claimSucceeded k (claimedSlot p v r) t) := by
    rw [exec_claimAnswer_live live _ awaited, claimAnswered, State.withService_some (s.dropPort tag) definition service]
    simp only [record]
    rfl
  have defined : (t.scanner p).definition = some d :=
    (congrArg Scanner.definition ((s.dropPort tag).scanner_setScanner_same p _)).trans definition
  have address : t.slotAddress (claimedSlot p v r).pool (claimedSlot p v r).index = place := t.slotAddress_eq defined _
  refine ⟨fun claiming idle => ?_, fun claiming busy => ?_, fun returning => ?_⟩
  · rw [won, claimSucceeded_idle (s := t) frame inFlight notIssued claiming idle]
    rfl
  · rw [won, claimSucceeded_work (s := t) live frame inFlight notIssued claiming busy, address]
    rfl
  · rw [won, claimSucceeded_returning (s := t) live frame inFlight returning, address]
    rfl

/-- Settles O46: the failures of the claimants, one after another. -/
theorem poolFaults : Obligations.PoolFaults := by
  intro s c tag p live answer x claimant
  have run : exec c s = .next (faultPool p (s.dropPort tag)) := by
    rcases answer with ⟨rfl, awaited⟩ | ⟨rfl, awaited⟩ | ⟨rfl, awaited⟩
    · exact exec_slotReadAnswer_live live _ awaited
    · exact exec_claimAnswer_live live _ awaited
    · exact exec_refusalAnswer_live live _ awaited
  let u : State := (s.dropPort tag).poolFaulted p
  have claimants (k : ViewId) : k ∈ x.claimants ↔ claimant k := x.mem_claimants k
  have failed := eachView_failClaimant_failsClaims u x.claimants
  have channel (k : ViewId) : u.channel k = s.channel k := rfl
  obtain ⟨asked, requests, rising, theirs⟩ := faultPool_requests (s.dropPort tag) p
  refine ⟨_, run, ?_, ?_, ?_, fun k claims => ?_, fun k spared => ?_, fun q other => ?_,
    ⟨asked, requests, rising, fun k inAsked => (claimants k).mp (theirs k inAsked)⟩, failed.same.entries, failed.same.pointer, ?_,
    failed.port⟩
  · exact (State.scanner_of_scanners failed.scanners p).trans ((s.dropPort tag).scanner_setScanner_same p _)
  · rintro ⟨k, claims, skips⟩
    exact eachView_failClaimant_skips u x.claimants ((claimants k).mpr claims) skips
  · intro keeps
    exact eachView_failClaimant_keeps u x.claimants fun k inList => keeps k ((claimants k).mp inList)
  · obtain ⟨t, before, same, after, channelAfter⟩ := eachView_failClaimant u x.claimants k
    have taken : failClaimant x.claimants k t = claimFailed .poolFault k t :=
      if_pos (List.contains_iff_mem.mpr ((claimants k).mpr claims))
    rw [taken] at after channelAfter
    exact (claimFailed_fails t .poolFault k).of_channel same.symm channelAfter (after.waiting _) after.flagged
  · obtain ⟨t, before, same, after, channelAfter⟩ := eachView_failClaimant u x.claimants k
    have skipped : failClaimant x.claimants k t = t := if_neg (mt List.contains_iff_mem.mp (mt (claimants k).mp spared))
    rw [skipped] at channelAfter
    exact channelAfter.trans same
  · exact (State.scanner_of_scanners failed.scanners q).trans ((s.dropPort tag).scanner_setScanner_other other _)
  · have same : u.SameBlocks (faultPool p (s.dropPort tag)) := failed.same
    simp only [same.run, same.timebase, same.receiver, same.tracker, same.plan, same.allocations, same.pending]
    rfl

end Sys2Proof
end

section
/-! The answers that end a view frame: the first write, the return and the sealing (02 R30 to R32; 06 R103, R107 to R109, R112). -/

namespace Sys2Proof.Machine

variable (s : State)

/-! ### The closing step of a view frame put in place -/

/-- A view frame after its closing step (06 R109). -/
def ViewFrame.closed (v : ViewFrame) : ViewFrame := { v with accumulator := [], present := [], staging := [], closing := true }

theorem closeFrame_put (k : ViewId) (c : OutcomeClass) (cause : OutcomeCause) (state : ChannelState) (v : ViewFrame) :
    closeFrame k c cause (s.put k state v) =
      { s with
        channels :=
          s.channels.set k
            { state := state, frame := some v.closed, tally := (s.channel k).tally.count v.frameNumber c cause }
        queue := s.joined (.viewTally k) } := by
  have standing := s.channel_put_same k state v
  rw [closeFrame_eq (s.put k state v) (by rw [standing]), standing]
  simp only [State.put, Vector.set_set]
  rfl

theorem loseSlot_put (k : ViewId) (state : ChannelState) (v : ViewFrame) :
    loseSlot k (s.put k state v) =
      { s with
        channels :=
          s.channels.set k
            { state := state, frame := some v.closed, tally := (s.channel k).tally.count v.frameNumber .lost .stolen }
        queue := s.joined (.viewTally k)
        attention := { s.attention with flags := s.attention.flags ||| 0x0010 } } :=
  closeFrame_put (s.raise .slotStolen) k .lost .stolen state v

/-- A view frame without its slot closes LOST, in the state its channel was put in. -/
theorem loseSlot_losesSlot {k : ViewId} {v w : ViewFrame} (frame : (s.channel k).frame = some v) (number : w.frameNumber = v.frameNumber)
    (slot : w.slot = none) (state : ChannelState) : LosesSlot k state s (loseSlot k (s.put k state w)) where
  channel v' frame' := by
    obtain rfl : v = v' := Option.some.inj (frame.symm.trans frame')
    refine ⟨w.closed, ?_, slot, rfl, rfl, rfl⟩
    rw [loseSlot_put, State.channel, number]
    exact Vector.getElem_set_self _
  others j other := by
    rw [loseSlot_put]
    exact s.channel_setChannel_other other _
  rest := by rw [loseSlot_put]

section Sealing

variable {v : ViewFrame} {cause : OutcomeCause}

theorem ViewFrame.sealClass_delivered (complete : v.abandoned = none) : v.sealClass = .delivered := by
  rw [ViewFrame.sealClass, complete]
  rfl

theorem ViewFrame.sealClass_torn (torn : v.abandoned = some cause) : v.sealClass = .torn := by
  rw [ViewFrame.sealClass, torn]
  rfl

theorem ViewFrame.sealCause_complete (complete : v.abandoned = none) : v.sealCause = .complete := by
  rw [ViewFrame.sealCause, complete, Option.getD_none]

theorem ViewFrame.sealCause_torn (torn : v.abandoned = some cause) : v.sealCause = cause := by
  rw [ViewFrame.sealCause, torn, Option.getD_some]

theorem raiseSealed_delivered (complete : v.abandoned = none) :
    raiseSealed v s =
      { s with attention := { s.attention with flags := s.attention.flags ||| (if v.descriptor.notify = 1 then 0x0001 else 0) } } := by
  rw [raiseSealed, complete]
  by_cases notify : v.descriptor.notify = 1
  · rw [if_pos notify, if_pos notify]
    rfl
  · simp [notify]

theorem raiseSealed_torn (torn : v.abandoned = some cause) :
    raiseSealed v s = { s with attention := { s.attention with flags := s.attention.flags ||| 0x0002 } } := by
  rw [raiseSealed, torn]
  rfl

end Sealing

end Sys2Proof.Machine

namespace Sys2Proof
open Sys2Proof.Machine

/-- Settles O47: a first write exchanged or not. -/
theorem firstWriteAnswered : Obligations.FirstWriteAnswered := by
  intro s tag k v live awaited frame outstanding u filling
  have run (answer : CasAnswer) := exec_firstWriteAnswer_live live answer awaited
  have waits : ¬v.firstWrite ≠ .outstanding := not_not.mpr outstanding
  refine ⟨fun due => ?_, fun idle => ?_, _, run .notExchanged, ?_⟩
  · rw [run, Machine.firstWriteAnswered, u.withFrame_some frame, if_neg waits, if_pos due, State.ask_eq]
    rfl
  · rw [run, Machine.firstWriteAnswered, u.withFrame_some frame, if_neg waits, if_neg idle]
    rfl
  · rw [Machine.firstWriteAnswered, u.withFrame_some frame, if_neg waits]
    exact loseSlot_losesSlot u (k := k) frame (w := { v.dropped with slot := none }) rfl rfl .returning

/-- Settles O48: the tally's count by class, then each answer, exchanged or not. -/
theorem returnAndSealingAnswered : Obligations.ReturnAndSealingAnswered := by
  refine ⟨fun y n cause => ⟨rfl, rfl, rfl, rfl, rfl⟩, ?_⟩
  intro s tag k v live frame u closed counted
  refine ⟨fun awaited => ⟨fun cause abandoned => ?_, _, exec_returnAnswer_live live _ awaited, ?_⟩,
    fun awaited => ⟨fun complete => ?_, fun cause torn => ?_, _, exec_sealingAnswer_live live _ awaited, ?_⟩⟩
  · have carried : v.abandoned.getD .none = cause := by rw [abandoned, Option.getD_some]
    rw [exec_returnAnswer_live live _ awaited, returnAnswered, u.withFrame_some frame, carried]
    exact congrArg Host.Outcome.next (closeFrame_put u k .returned cause (s.channel k).state { v with slot := none })
  · rw [returnAnswered, u.withFrame_some frame]
    exact loseSlot_losesSlot u (k := k) frame (w := { v with slot := none }) rfl rfl _
  · rw [exec_sealingAnswer_live live _ awaited, sealingAnswered, u.withFrame_some frame, ViewFrame.sealClass_delivered complete,
      ViewFrame.sealCause_complete complete, raiseSealed_delivered u complete]
    exact congrArg Host.Outcome.next
      (closeFrame_put { u with attention := _ } k .delivered .complete (s.channel k).state { v with slot := none })
  · rw [exec_sealingAnswer_live live _ awaited, sealingAnswered, u.withFrame_some frame, ViewFrame.sealClass_torn torn,
      ViewFrame.sealCause_torn torn, raiseSealed_torn u torn]
    exact congrArg Host.Outcome.next
      (closeFrame_put { u with attention := _ } k .torn cause (s.channel k).state { v with slot := none })
  · rw [sealingAnswered, u.withFrame_some frame]
    exact loseSlot_losesSlot u (k := k) frame (w := { v with slot := none }) rfl rfl _

end Sys2Proof
end

section
/-! The closing of a channel and the order of admission to the write queue (06 R106, R107, R109; 09 R150 to R154). -/

namespace Sys2Proof.Machine

variable (s : State)

/-! ### The entry to SEALING -/

theorem withdraw_viewTally (k : ViewId) :
    s.withdraw (.viewTally k) =
      { s with queue := { s.queue with requests := s.queue.requests.filter fun q => q ≠ .viewTally k } } := by
  have same : (fun q => !(Request.viewTally k).same q) = fun q => decide (q ≠ .viewTally k) := by
    funext q
    cases q <;> simp [Request.same, eq_comm]
  simp only [State.withdraw, same]

/-- A frame record for which no other of its channel waits joins the order, in the place of a waiting tally. -/
theorem askFrameRecord_eq {k : ViewId} (alone : ∀ bytes, Request.frameRecord k bytes ∉ s.queue.requests) (bytes : List Byte) :
    s.askFrameRecord k bytes =
      { s with
        queue :=
          { s.queue with
            requests := (s.queue.requests.filter fun q => q ≠ .viewTally k) ++ [.frameRecord k bytes] } } := by
  have first : (s.withdraw (.viewTally k)).waitingFor (.frameRecord k bytes) = false := by
    rw [State.waitingFor, withdraw_viewTally, List.any_eq_false]
    intro q waits same
    cases q with
    | frameRecord j other =>
      obtain rfl : k = j := by simpa [Request.same] using same
      exact alone other (List.mem_of_mem_filter waits)
    | metadataCopy | viewTally | linkTally | adoptionWord => exact Bool.noConfusion same
  rw [State.askFrameRecord, State.ask_eq, State.joined, first, withdraw_viewTally]
  rfl

/-! ### The order of admission -/

section Admission

variable {s}

theorem entryFree_iff : s.entryFree = true ↔ s.live ∧ s.queue.entries.length < 32 := by
  have running : s.halted = false ↔ s.live := ⟨s.live_of_not_halted, s.halted_of_live⟩
  rw [State.entryFree, Bool.and_eq_true, decide_eq_true_eq, Bool.not_eq_true', running, and_comm]
  rfl

theorem admitOne_full (full : ¬s.live ∨ 32 ≤ s.queue.entries.length) : admitOne s = s := by
  refine if_neg fun free => ?_
  obtain ⟨live, room⟩ := entryFree_iff.mp free
  exact full.elim (absurd live) (Nat.not_le.mpr room)

theorem admitOne_request (live : s.live) (room : s.queue.entries.length < 32) {r : Request} {rest : List Request}
    (requests : s.queue.requests = r :: rest) :
    admitOne s = admitRequest r { s with queue := { s.queue with requests := rest } } := by
  rw [admitOne, if_pos (entryFree_iff.mpr ⟨live, room⟩), requests]

theorem admitOne_nothing (requests : s.queue.requests = []) (rows : ∀ k, ¬s.rowReady k) : admitOne s = s := by
  have nobody : s.roundRobin = none := by
    rw [← Option.not_isSome_iff_eq_none, State.roundRobin_isSome_iff]
    exact fun ⟨k, ready⟩ => rows k ready
  rw [admitOne, requests, nobody]
  exact ite_self s

/-- The round-robin takes the first eligible channel from the pointer. -/
theorem roundRobin_eq_some {k : ViewId} (ready : s.rowReady k)
    (first : ∀ j : ViewId, (j - s.queue.pointer).val < (k - s.queue.pointer).val → ¬s.rowReady j) : s.roundRobin = some k := by
  have least : allViews.find? (s.eligible ∘ fun j => s.queue.pointer + j) = some (k - s.queue.pointer) := by
    refine find?_eq_some_of_least (by decide) (by decide) ?_ fun j before => ?_
    · rw [Function.comp_apply, add_sub_cancel]
      exact (s.eligible_iff k).mpr ready
    · rw [Function.comp_apply, ← Bool.not_eq_true, State.eligible_iff]
      refine first _ ?_
      rw [add_sub_cancel_left]
      exact before
  rw [State.roundRobin, viewsFrom, List.find?_map, least, Option.map_some, add_sub_cancel]

theorem admitOne_row (live : s.live) (room : s.queue.entries.length < 32) (requests : s.queue.requests = []) {k : ViewId}
    (ready : s.rowReady k)
    (first : ∀ j : ViewId, (j - s.queue.pointer).val < (k - s.queue.pointer).val → ¬s.rowReady j) : admitOne s = admitRow k s := by
  rw [admitOne, if_pos (entryFree_iff.mpr ⟨live, room⟩), requests, roundRobin_eq_some ready first]

end Admission

/-! ### The next transaction of a staging -/

theorem StagedRow.nextWaiting_eq_none {r : StagedRow} (settled : TransactionState.waiting ∉ r.transactions) : r.nextWaiting = none := by
  rw [StagedRow.nextWaiting, List.findIdx?_eq_none_iff]
  intro t inRow
  simp only [beq_eq_false_iff_ne]
  rintro rfl
  exact settled inRow

theorem StagedRow.nextWaiting_eq_some {r : StagedRow} {i : Nat} (waits : r.transactions[i]? = some .waiting)
    (first : TransactionState.waiting ∉ r.transactions.take i) : r.nextWaiting = some i := by
  obtain ⟨below, there⟩ := List.getElem?_eq_some_iff.mp waits
  refine List.findIdx?_eq_some_iff_getElem.mpr ⟨below, by rw [there]; rfl, fun j before waiting => first ?_⟩
  rw [List.mem_take_iff_getElem]
  exact ⟨j, by omega, by simpa using waiting⟩

theorem nextTransaction_eq_some {staging : List CellRow} {r : StagedRow} {i : Nat} (next : IsNext staging r i) :
    nextTransaction staging = some (r, i) := by
  obtain ⟨before, after, rows, earlier, waits, first⟩ := next
  have passed : (before.findSome? fun q => q.nextWaiting.map fun i => (q, i)) = none := by
    rw [List.findSome?_eq_none_iff]
    intro q inBefore
    rw [StagedRow.nextWaiting_eq_none (earlier q inBefore), Option.map_none]
  rw [nextTransaction, rows, List.findSome?_append, passed, List.findSome?_cons, StagedRow.nextWaiting_eq_some waits first]
  rfl

end Sys2Proof.Machine

namespace Sys2Proof
open Sys2Proof.Machine

/-- Settles O49: the entry to SEALING, the sealing, the closing tally. -/
theorem channelSealsAndCloses : Obligations.ChannelSealsAndCloses := by
  refine ⟨fun s k v frame => ⟨fun ready alone => ?_, fun unready => ?_⟩, ?_,
    fun s tag k live => ⟨fun awaited => ?_, fun awaited => ?_⟩⟩
  · have entered : exec (.sealingEntry k) s = .next ((s.put k .sealing v).askFrameRecord k (frameRecordBytes k v)) := by
      refine congrArg Host.Outcome.next ?_
      rw [enterSealing, s.withFrame_some frame, if_pos ((s.readyToSeal_iff k).mpr ready)]
      rfl
    rw [entered, askFrameRecord_eq (s.put k .sealing v) alone]
    rfl
  · refine congrArg Host.Outcome.next ?_
    rw [enterSealing, s.withFrame_some frame, if_neg (mt (s.readyToSeal_iff k).mp unready)]
  · intro s tag k v x d live awaited frame sealing slot definition t
    have code : (if v.abandoned.isSome then SlotState.torn else .filled).code = if v.abandoned = none then 0x04 else 0x05 := by
      cases v.abandoned <;> rfl
    rw [exec_frameRecordResponse_live live _ awaited, frameRecordAnswered, t.withFrame_some frame, slot]
    dsimp only
    rw [if_pos (show (t.channel k).state = .sealing from sealing), State.exchangeSlot_eq, State.exchanges_live t live,
      t.slotAddress_eq definition, code]
  · rw [exec_viewTallyResponse_live live _ awaited]
    rfl
  · rw [exec_viewTallyResponse_live live _ awaited]
    rfl

/-- Settles O50: what is admitted, by the requests that wait and the channels that are ready. -/
theorem admissionOrder : Obligations.AdmissionOrder := by
  refine ⟨fun s full => congrArg _ (admitOne_full full), fun s requests rows => congrArg _ (admitOne_nothing requests rows), ?_, ?_⟩
  · intro s r rest live room requests u after
    have run : exec .admission s = .next (admitRequest r u) := congrArg _ (admitOne_request live room requests)
    rw [run]
    refine ⟨?_, ?_, ?_, ?_, ?_⟩
    · rintro rfl
      rfl
    · rintro rfl
      rfl
    · rintro k rfl
      rfl
    · rintro k bytes v x rfl frame slot
      rw [admitRequest, admitRecord, u.withFrame_some frame, slot]
      simp only [Slot.at, BitVec.add_zero]
      rfl
    · rintro k v x rfl frame slot
      rw [admitRequest, admitCopy, u.withFrame_some frame, slot]
      rfl
  · intro s k v x r i live room requests ready first frame slot next
    refine congrArg Host.Outcome.next ?_
    rw [admitOne_row live room requests ready first, admitRow, s.withFrame_some frame, slot, nextTransaction_eq_some next]
    rfl

end Sys2Proof
end

section
/-! The responses to row transactions and metadata copies, and a BUS_ERROR among them (06 R105; 09 R155, R156, R158). -/

namespace Sys2Proof.Machine

variable (s : State)

/-! ### Staging -/

/-- A cell-row keeps its place while a transaction of it waits or is outstanding. -/
theorem freePlaces_eq (staging : List CellRow) :
    freePlaces staging =
      staging.filter fun c => c.rows.any fun r => r.transactions.any fun t => t = .waiting || t = .outstanding := by
  have unfinished (c : CellRow) :
      (!c.finished) = c.rows.any fun r => r.transactions.any fun t => t = .waiting || t = .outstanding := by
    rw [CellRow.finished, List.not_all_eq_any_not]
    congr 1
    funext r
    rw [StagedRow.finished, List.not_all_eq_any_not]
    congr 1
    funext t
    cases t <;> rfl
  rw [freePlaces]
  exact List.filter_congr fun c _ => unfinished c

/-- What is left of a staging whose unadmitted transactions are withdrawn waits for no admission. -/
theorem waiting_not_mem_withdrawnFrom {staging : List CellRow} {c : CellRow} (kept : c ∈ withdrawnFrom staging) {r : StagedRow}
    (inCell : r ∈ c.rows) : TransactionState.waiting ∉ r.transactions := by
  obtain ⟨d, -, rfl⟩ := List.mem_map.mp kept
  obtain ⟨q, -, rfl⟩ := List.mem_map.mp inCell
  intro waits
  obtain ⟨t, -, became⟩ := List.mem_map.mp waits
  split at became
  · exact TransactionState.noConfusion became
  · next other => exact other became

/-- A row counts as written once every transaction of it is OK. -/
theorem ViewFrame.rowOk_eq (v : ViewFrame) (n i : Nat) :
    v.rowOk n i =
      { v with
        staging := freePlaces (markTransaction n i .ok v.staging)
        rowsWritten :=
          v.rowsWritten
            + (if (stagedRow n (markTransaction n i .ok v.staging)).any fun r => r.transactions.all fun t => t = .ok then 1 else 0) } := by
  have all (r : StagedRow) : r.written = r.transactions.all fun t => t = .ok := List.all_congr rfl fun t => by cases t <;> rfl
  rw [ViewFrame.rowOk]
  cases stagedRow n (markTransaction n i .ok v.staging) with
  | none => rfl
  | some r =>
    dsimp only
    rw [Option.any_some, ← all r]
    by_cases written : r.written = true
    · rw [if_pos written, if_pos written]
    · rw [if_neg written, if_neg written, Nat.add_zero]

/-! ### Abandonment of a view frame with a FILLING slot -/

/-- A first cause stands: the view frame left in the channel is not abandoned again. -/
theorem abandonFrame_setFrame_abandoned {k : ViewId} {w : ViewFrame} (already : w.abandoned.isSome = true) (cause : OutcomeCause)
    (time : DWord) : abandonFrame k cause time (s.setFrame k w) = s.setFrame k w := by
  have frame : ((s.setFrame k w).channel k).frame = some w := congrArg Channel.frame (s.channel_setFrame_same k w)
  rw [abandonFrame, State.withFrame_some _ frame]
  exact if_pos already

theorem abandons_filling {k : ViewId} {v : ViewFrame} (frame : (s.channel k).frame = some v) (fresh : v.abandoned = none)
    (exchanged : v.firstWrite = .exchanged) (filling : (s.channel k).state = .active ∨ (s.channel k).state = .flushing)
    (cause : OutcomeCause) (time : DWord) :
    s.abandons cause time k =
      { s.put k .flushing { leftBehind v cause time with staging := withdrawnFrom v.staging } with
        queue := { s.queue with requests := s.queue.requests.filter fun q => q ≠ .metadataCopy k } } := by
  rw [State.abandons, frame]
  dsimp only
  rw [if_neg (not_not.mpr fresh), exchanged]
  rcases filling with state | state
  · rw [state]
  · rw [state]

theorem waitingFor_metadataCopy_filter (q : WriteQueue) (k : ViewId) :
    ({ s with queue := { q with requests := q.requests.filter fun r => r ≠ .metadataCopy k } } : State).waitingFor (.metadataCopy k)
      = false := by
  rw [State.waitingFor, List.any_eq_false]
  intro r waits same
  have other : r ≠ .metadataCopy k := of_decide_eq_true (List.mem_filter.mp waits).2
  cases r with
  | metadataCopy j => exact other (by rw [show k = j from of_decide_eq_true same])
  | frameRecord | viewTally | linkTally | adoptionWord => exact Bool.noConfusion same

/-- A BUS_ERROR reaches the view frame that a response left in the channel. -/
theorem abandonFrame_busError {k : ViewId} {v w : ViewFrame} (fresh : w.abandoned = none) (exchanged : w.firstWrite = .exchanged)
    (filling : (s.channel k).state = .active ∨ (s.channel k).state = .flushing) (rows : w.rowsWritten = v.rowsWritten)
    (bytes : w.metadataBytes = v.metadataBytes) (slot : w.slot = v.slot) :
    BusError k v s (abandonFrame k .busError s.timebase (s.setFrame k w)) := by
  have standing : (s.setFrame k w).channel k = { s.channel k with frame := some w } := s.channel_setFrame_same k w
  have run := abandons_filling (s.setFrame k w) (k := k) (by rw [standing]) fresh exchanged (by rw [standing]; exact filling)
    .busError s.timebase
  rw [abandonFrame_eq, run]
  refine ⟨⟨{ leftBehind w .busError s.timebase with staging := withdrawnFrom w.staging }, ?_, rfl, rfl, rows, bytes, slot, rfl,
    fun c kept r inCell => waiting_not_mem_withdrawnFrom kept inCell⟩, ?_, fun j other => ?_, rfl, rfl, rfl⟩
  · refine ((s.setFrame k w).channel_put_same k .flushing _).trans ?_
    rw [standing]
  · exact waitingFor_metadataCopy_filter _ s.queue k
  · exact ((s.setFrame k w).channel_moveChannel_other other .flushing _).trans (s.channel_setFrame_other other w)

end Sys2Proof.Machine

namespace Sys2Proof
open Sys2Proof.Machine

/-- Settles O51: the response to a row transaction, then to a metadata copy. -/
theorem writesAnswered : Obligations.WritesAnswered := by
  refine ⟨?_, ?_⟩
  · intro s tag k n i v live awaited frame u ok failed remaining
    have free (staging : List CellRow) : freePlaces staging = remaining staging := freePlaces_eq staging
    have run (answer : WriteAnswer) := exec_rowWriteResponse_live live answer awaited
    have error : exec (.rowWriteResponse tag .error) s = .next (abandonFrame k .busError u.timebase (u.setFrame k (v.rowFailed n i))) := by
      rw [run, rowAnswered, u.withFrame_some frame]
    have failure : v.rowFailed n i = { v with staging := remaining failed } := by rw [ViewFrame.rowFailed, free]
    refine ⟨?_, fun already => ?_,
      fun fresh exchanged filling => ⟨_, error, abandonFrame_busError u fresh exchanged filling rfl rfl rfl⟩⟩
    · rw [run, rowAnswered, u.withFrame_some frame, ViewFrame.rowOk_eq, free]
      rfl
    · rw [error, abandonFrame_setFrame_abandoned u (w := v.rowFailed n i) already, failure]
      rfl
  · intro s tag k n v live awaited frame u
    have run (answer : WriteAnswer) := exec_metadataCopyResponse_live live answer awaited
    refine ⟨fun other answer => ?_, fun own => ⟨?_, fun already => ?_, fun fresh exchanged filling => ?_⟩⟩
    · rw [run, copyAnswered, u.withFrame_some frame, if_pos other]
    · rw [run, copyAnswered, u.withFrame_some frame, if_neg (not_not.mpr own)]
      rfl
    · rw [run, copyAnswered, u.withFrame_some frame, if_neg (not_not.mpr own)]
      exact congrArg _ (abandonFrame_setFrame_abandoned u (w := { v with copy := .answered }) already _ _)
    · refine ⟨_, run .error, ?_⟩
      rw [copyAnswered, u.withFrame_some frame, if_neg (not_not.mpr own)]
      exact abandonFrame_busError u (w := { v with copy := .answered }) fresh exchanged filling rfl rfl rfl

end Sys2Proof
end

section
/-! The link receiver: what each event of the link takes, and that any other event leaves the bytes held (04 R61, R62, R69 to R74). -/

namespace Sys2Proof.Machine

variable {s : State}

/-! ### Events the receiver does not wait for -/

theorem takeMatch_elsewhere {lane : LaneId}
    (elsewhere : ¬s.receiver.searching = true ∨ s.receiver.lanes ≤ lane.val ∨ ∀ n, ¬WordAt s.receiver.held[lane] n) :
    takeMatch lane s = s := by
  have kept : s.receiver.matchOn lane = s.receiver := by
    rw [Receiver.matchOn]
    rcases elsewhere with idle | unused | nothing
    · exact if_neg fun now => idle now.1
    · exact if_neg fun now => Nat.not_le.mpr now.2 unused
    · rw [(findWord_none lane s.receiver.held[lane]).mpr nothing]
      exact ite_self _
  rw [takeMatch, kept]
  rfl

theorem takeVerifyHeader_elsewhere (elsewhere : ¬(s.receiver.state = .verify ∧ s.receiver.phase = .header)) :
    takeVerifyHeader s = s := by
  rw [takeVerifyHeader, Receiver.verifyHeader, if_neg elsewhere]
  rfl

theorem takeVerifyBoundary_elsewhere
    (elsewhere : ¬(s.receiver.state = .verify ∧ s.receiver.phase = .boundary ∧ s.receiver.verifyCount < 3
      ∧ s.receiver.holdsBeyond 4 = true)) : takeVerifyBoundary s = s := by
  rw [takeVerifyBoundary, Receiver.verifyBoundary]
  exact congrArg s.setReceiver (if_neg elsewhere)

theorem canLock_iff (r : Receiver) : r.canLock = true ↔
    r.state = .verify ∧ r.phase = .boundary ∧ r.verifyCount = 3 ∧ r.reaches r.held 0 := by
  rw [Receiver.canLock, Bool.and_eq_true, Bool.and_eq_true, Bool.and_eq_true, decide_eq_true_eq, decide_eq_true_eq, beq_iff_eq,
    r.holdsBeyond_iff, and_assoc, and_assoc]
  rfl

theorem endVerify_elsewhere
    (elsewhere : ¬(s.receiver.state = .verify ∧ s.receiver.phase = .boundary ∧ s.receiver.verifyCount = 3
      ∧ s.receiver.reaches s.receiver.held 0)) : endVerify s = s :=
  if_neg (mt (canLock_iff s.receiver).mp elsewhere)

theorem takeLockedBoundary_elsewhere
    (elsewhere : ¬(s.receiver.state = .locked ∧ s.receiver.phase = .boundary ∧ s.receiver.holdsBeyond 4 = true)) :
    takeLockedBoundary s = s := if_neg elsewhere

theorem takeLockedHeader_elsewhere (elsewhere : ¬(s.receiver.state = .locked ∧ s.receiver.phase = .header)) :
    takeLockedHeader s = s := if_neg elsewhere

theorem takePacket_elsewhere {between : List NoticeStep}
    (elsewhere : ¬(s.receiver.state = .locked ∧ s.receiver.phase = .payload) ∨ s.receiver.packet = none) :
    takePacket between s = s := by
  unfold takePacket
  split
  · rfl
  · next h packet =>
    rcases elsewhere with idle | none
    · exact if_neg idle
    · exact absurd (packet.symm.trans none) (Option.some_ne_none h)

theorem Receiver.search_elsewhere {r : Receiver} (elsewhere : ¬(r.state = .locked ∧ r.phase = .search)) (n : Nat) :
    r.search n = r := by
  cases n with
  | zero => rfl
  | succ n => exact if_neg elsewhere

theorem Receiver.search_nothing {r : Receiver} (nothing : r.nextMatch = none) (n : Nat) : r.search n = r := by
  cases n with
  | zero => rfl
  | succ n =>
    rw [Receiver.search, nothing]
    exact ite_self r

theorem searchBoundary_elsewhere
    (elsewhere : ¬(s.receiver.state = .locked ∧ s.receiver.phase = .search)
      ∨ ∀ j : LaneId, j.val < s.receiver.lanes → ∀ n, ¬WordAt s.receiver.held[j] n) : searchBoundary s = s := by
  have kept : s.receiver.search s.receiver.heldCount = s.receiver := by
    rcases elsewhere with idle | nothing
    · exact Receiver.search_elsewhere idle _
    · exact Receiver.search_nothing (Receiver.nextMatch_none.mpr fun j inUse => (findWord_none j _).mpr (nothing j inUse)) _
  rw [searchBoundary, kept]
  rfl

/-! ### The alignment word -/

theorem searching_iff (r : Receiver) : r.searching = true ↔ r.state = .hunt ∨ (r.state = .locked ∧ r.phase = .search) := by
  rw [Receiver.searching, Bool.or_eq_true, Bool.and_eq_true, decide_eq_true_eq, decide_eq_true_eq, decide_eq_true_eq]

theorem Receiver.matchOn_some {r : Receiver} {lane : LaneId} {n a : Nat} (searching : r.searching = true)
    (inUse : lane.val < r.lanes) (word : FirstWord r.held[lane] n a) :
    r.matchOn lane = r.takeMatch { lane := lane, arrival := a, rest := r.held[lane].drop (n + 4) } := by
  rw [Receiver.matchOn, if_pos ⟨searching, inUse⟩, findWord_some lane _ n a word]

theorem Receiver.takeBoundary_hunt {r : Receiver} (positioned : r.positioned = true) (hunt : r.state = .hunt) :
    r.takeBoundary = { r with state := .verify, verifyCount := 0, phase := .header, packet := none } := by
  rw [Receiver.takeBoundary, if_pos positioned, hunt]

theorem Receiver.takeBoundary_locked {r : Receiver} (positioned : r.positioned = true) (locked : r.state = .locked) :
    r.takeBoundary = { r with phase := .header, packet := none } := by
  rw [Receiver.takeBoundary, if_pos positioned, locked]

theorem Receiver.takeBoundary_none {r : Receiver} (positioned : ¬r.positioned = true) : r.takeBoundary = r := if_neg positioned

/-- The word that a search takes next is the first of its lane, and no lane in use has one before it. -/
theorem Receiver.nextMatch_eq {r : Receiver} {i : LaneId} {n a : Nat} (inUse : i.val < r.lanes) (word : FirstWord r.held[i] n a)
    (first : ∀ (j : LaneId) (m b : Nat), j.val < r.lanes → FirstWord r.held[j] m b → a < b ∨ (a = b ∧ i ≤ j)) :
    r.nextMatch = some { lane := i, arrival := a, rest := r.held[i].drop (n + 4) } := by
  have found := findWord_some i r.held[i] n a word
  cases next : r.nextMatch with
  | none =>
    exact absurd (found.symm.trans (Receiver.nextMatch_none.mp next i inUse)) (Option.some_ne_none _)
  | some m =>
    obtain ⟨lane, here, least⟩ := Receiver.nextMatch_some next
    obtain ⟨p, there⟩ := findWord_first here
    have same : m.lane = i := by
      rcases first m.lane p m.arrival lane there with early | ⟨together, low⟩ <;>
        rcases least i _ inUse found with early' | ⟨together', low'⟩ <;> dsimp only at *
      · omega
      · omega
      · omega
      · exact le_antisymm low' low
    subst same
    exact here.symm.trans found

/-- A search takes its next word and goes on. -/
theorem searchBoundary_next {m : WordMatch} (locked : s.receiver.state = .locked) (search : s.receiver.phase = .search)
    (next : s.receiver.nextMatch = some m) : searchBoundary s = searchBoundary (s.setReceiver (s.receiver.takeMatch m)) := by
  have fewer := Receiver.heldCount_takeMatch (Receiver.nextMatch_some next).2.1
  have step : s.receiver.search (s.receiver.heldCount + 1) = (s.receiver.takeMatch m).search s.receiver.heldCount := by
    rw [Receiver.search, if_pos ⟨locked, search⟩, next]
  have whole : s.receiver.search s.receiver.heldCount = (s.receiver.takeMatch m).search (s.receiver.takeMatch m).heldCount := by
    rw [Receiver.search_enough _ (s.receiver.heldCount + 1) s.receiver le_rfl (Nat.le_succ _), step,
      Receiver.search_enough _ _ _ fewer.le le_rfl]
  rw [searchBoundary, whole]
  rfl

theorem noBytes_bytes : ∀ j : LaneId, noBytes[j].bytes = [] := by decide

/-! ### VERIFY -/

theorem passesVerify_iff (lanes : Nat) (h : BitVec 64) : passesVerify lanes h = true ↔
    headerGood lanes h = true ∧ ∃ kind, headerKind h = some kind
      ∧ headerLength h ≤
        (match kind with
          | .frameStart => 5
          | .metaRow => 4096
          | .pixelRow => 14336
          | .frameEnd => 0
          | .fill => 0) := by
  have largest (kind : PacketKind) : largestLength kind =
      (match kind with
        | .frameStart => 5
        | .metaRow => 4096
        | .pixelRow => 14336
        | .frameEnd => 0
        | .fill => 0) := by cases kind <;> rfl
  rw [passesVerify, Bool.and_eq_true]
  cases headerKind h with
  | none => simp
  | some kind =>
    simp only [largest, decide_eq_true_eq, Option.some.injEq, exists_eq_left']

theorem takeVerifyHeader_waiting (waiting : rebuild s.receiver.lanes (valuesOf s.receiver.held) 8 = none) :
    takeVerifyHeader s = s := by
  rw [takeVerifyHeader, Receiver.verifyHeader, Receiver.takeHeader_none waiting]
  exact congrArg s.setReceiver (ite_self s.receiver)

theorem takeVerifyHeader_judged {h : BitVec 64} (verify : s.receiver.state = .verify) (phase : s.receiver.phase = .header)
    (carried : rebuild s.receiver.lanes (valuesOf s.receiver.held) 8 = some (headerBytes h)) :
    takeVerifyHeader s =
      s.setReceiver
        (({ s.receiver with held := taking s.receiver.held fun j => laneShare s.receiver.lanes 8 j.val } : Receiver).judgeVerify h) := by
  rw [takeVerifyHeader, Receiver.verifyHeader, if_pos ⟨verify, phase⟩, Receiver.takeHeader_some carried]

theorem takeVerifyBoundary_reached (verify : s.receiver.state = .verify) (phase : s.receiver.phase = .boundary)
    (early : s.receiver.verifyCount < 3) (reached : s.receiver.reaches s.receiver.held 4) :
    takeVerifyBoundary s =
      s.setReceiver (if s.receiver.aligned then s.receiver.passBoundary else s.receiver.enterHunt) := by
  rw [takeVerifyBoundary, Receiver.verifyBoundary]
  exact congrArg s.setReceiver (if_pos ⟨verify, phase, early, (s.receiver.holdsBeyond_iff 4).mpr reached⟩)

/-! ### LOCKED -/

theorem takeLockedBoundary_reached (locked : s.receiver.state = .locked) (phase : s.receiver.phase = .boundary)
    (reached : s.receiver.reaches s.receiver.held 4) :
    takeLockedBoundary s = if s.receiver.aligned then s.setReceiver s.receiver.passBoundary else loseLock s :=
  if_pos ⟨locked, phase, (s.receiver.holdsBeyond_iff 4).mpr reached⟩

/-- The lock lost, before the frame in progress is truncated. -/
def State.unlocked (s : State) : State :=
  { s with
    receiver := { huntFrom s.receiver with lockLosses := s.receiver.lockLosses + 1 }
    attention := { s.attention with flags := s.attention.flags ||| 0x0400 } }

theorem loseLock_eq (s : State) : loseLock s = s.unlocked.truncates .linkLost := truncateFrame_eq s.unlocked .linkLost

theorem takeLockedHeader_waiting (waiting : rebuild s.receiver.lanes (valuesOf s.receiver.held) 8 = none) :
    takeLockedHeader s = s := by
  rw [takeLockedHeader, Receiver.takeHeader_none waiting]
  exact ite_self s

theorem takeLockedHeader_judged {h : BitVec 64} (locked : s.receiver.state = .locked) (phase : s.receiver.phase = .header)
    (carried : rebuild s.receiver.lanes (valuesOf s.receiver.held) 8 = some (headerBytes h)) :
    takeLockedHeader s =
      judgeLocked h
        (s.setReceiver { s.receiver with held := taking s.receiver.held fun j => laneShare s.receiver.lanes 8 j.val }) := by
  rw [takeLockedHeader, if_pos ⟨locked, phase⟩, Receiver.takeHeader_some carried]

theorem judgeLocked_good {h : BitVec 64} {kind : PacketKind} (good : headerGood s.receiver.lanes h = true)
    (known : headerKind h = some kind) : judgeLocked h s = takeGoodHeader h kind s := by
  rw [judgeLocked, good, known]

theorem judgeLocked_bad {h : BitVec 64} (bad : headerGood s.receiver.lanes h = false) : judgeLocked h s = takeBadHeader h s := by
  rw [judgeLocked, bad]

/-- The first header in succession that is not good: its extent is trusted if its check passes. -/
theorem takeBadHeader_first {h : BitVec 64} (first : s.receiver.badCount = 0) :
    takeBadHeader h s =
      s.setReceiver
        (if headerCheckPasses h then
          { s.receiver with
            headerErrors := s.receiver.headerErrors + 1, badCount := 1, phase := .boundary, packet := some h }
        else
          { s.receiver with
            headerErrors := s.receiver.headerErrors + 1, badCount := 1, phase := .search, packet := none
            positions := #v[none, none, none, none] }) := by
  unfold takeBadHeader
  simp only [first, Nat.zero_add]
  rw [if_neg (by decide)]
  exact (apply_ite s.setReceiver _ _ _).symm

theorem takeBadHeader_second {h : BitVec 64} (second : s.receiver.badCount = 1) :
    takeBadHeader h s =
      loseLock (s.setReceiver { s.receiver with headerErrors := s.receiver.headerErrors + 1, badCount := 2 }) := by
  unfold takeBadHeader
  simp only [second]
  rfl

end Sys2Proof.Machine

namespace Sys2Proof
open Sys2Proof.Machine

/-- Settles O15: a word matched on a lane, the events that leave the bytes held, and the search word by word. -/
theorem alignmentWordSearches : Obligations.AlignmentWordSearches := by
  unfold Obligations.AlignmentWordSearches
  intro searching
  have onLane (s : State) (lane : LaneId) (run : LaneRun) (on : s.receiver.state ≠ .off) :
      exec (.alignmentWordMatch lane run) s = .next (takeMatch lane (s.lanesHold (runOn lane run))) := by
    rw [← State.receive_on on, ← onlyLane_eq]
    rfl
  refine ⟨?_, ?_, ?_, ?_, ?_⟩
  · intro s lane run n a searches inUse held word p found boundary
    have on : s.receiver.state ≠ .off := by
      intro off
      rcases searches with hunt | ⟨locked, -⟩
      · exact ReceiverState.noConfusion (off.symm.trans hunt)
      · exact ReceiverState.noConfusion (off.symm.trans locked)
    have matched : exec (.alignmentWordMatch lane run) s = .next { s with receiver := found.takeBoundary } := by
      rw [onLane s lane run on, takeMatch,
        Receiver.matchOn_some (r := (s.lanesHold (runOn lane run)).receiver) ((searching_iff _).mpr searches) inUse word]
      rfl
    have positioned : found.positioned = true ↔ boundary := found.positioned_iff
    refine ⟨fun complete hunt => ?_, fun complete locked => ?_, fun incomplete => ?_⟩
    · rw [matched, Receiver.takeBoundary_hunt (positioned.mpr complete) hunt]
    · rw [matched, Receiver.takeBoundary_locked (positioned.mpr complete) locked]
    · rw [matched, Receiver.takeBoundary_none (mt positioned.mp incomplete)]
  · intro s lane run on elsewhere
    rw [onLane s lane run on, takeMatch_elsewhere]
    exact elsewhere.imp_left (mt (searching_iff _).mp)
  · intro s lane run runs between off c inList
    have other {x : ReceiverState} (different : x ≠ .off) : s.receiver.state ≠ x := fun same => different (same.symm.trans off)
    have idle (arrives : LaneRuns) : s.receive arrives = s := State.receive_off off arrives
    have unsearching : ¬s.receiver.searching = true := by
      rw [searching_iff]
      exact fun now => now.elim (other (by decide)) fun locked => other (by decide) locked.1
    fin_cases inList
    · exact congrArg _ ((congrArg _ (idle _)).trans (takeMatch_elsewhere (.inl unsearching)))
    · exact congrArg _ ((congrArg _ (idle _)).trans (takeVerifyHeader_elsewhere fun now => other (by decide) now.1))
    · exact congrArg _ ((congrArg _ (idle _)).trans (takeVerifyBoundary_elsewhere fun now => other (by decide) now.1))
    · exact congrArg _ (endVerify_elsewhere fun now => other (by decide) now.1)
    · exact congrArg _ ((congrArg _ (idle _)).trans (takeLockedBoundary_elsewhere fun now => other (by decide) now.1))
    · exact congrArg _ ((congrArg _ (idle _)).trans (takeLockedHeader_elsewhere fun now => other (by decide) now.1))
    · exact congrArg _ ((congrArg _ (idle _)).trans (searchBoundary_elsewhere (.inl fun now => other (by decide) now.1)))
    · exact congrArg _ ((congrArg _ (idle _)).trans (takePacket_elsewhere (.inl fun now => other (by decide) now.1)))
  · intro s runs on elsewhere
    exact congrArg _ ((congrArg _ (State.receive_on on runs)).trans (searchBoundary_elsewhere elsewhere))
  · intro s t runs i n a locked search inUse word first matched
    have on : s.receiver.state ≠ .off := by
      rw [locked]
      decide
    have begun : exec (.boundarySearch runs) s = .next (searchBoundary (s.lanesHold runs)) :=
      congrArg _ (congrArg _ (State.receive_on on runs))
    have silent (j : LaneId) : (onlyLane i ⟨[], 0⟩)[j].bytes = [] := by
      rw [onlyLane, perLane_getElem]
      split <;> rfl
    obtain rfl : takeMatch i (s.lanesHold runs) = t := by
      have same : exec (.alignmentWordMatch i ⟨[], 0⟩) (s.lanesHold runs) = .next (takeMatch i (s.lanesHold runs)) :=
        congrArg _ (congrArg _ ((s.lanesHold runs).receive_nothing silent))
      exact Host.Outcome.next.inj (same.symm.trans matched)
    have next := Receiver.nextMatch_eq (r := (s.lanesHold runs).receiver) inUse word first
    have goesOn : searchBoundary (s.lanesHold runs) = searchBoundary (takeMatch i (s.lanesHold runs)) := by
      rw [searchBoundary_next (s := s.lanesHold runs) locked search next, takeMatch,
        Receiver.matchOn_some (r := (s.lanesHold runs).receiver) ((searching_iff _).mpr (.inr ⟨locked, search⟩)) inUse word]
    refine ⟨fun header => ?_, fun _ => ?_⟩
    · rw [begun, goesOn, searchBoundary_elsewhere (.inl fun now => ?_)]
      rw [header] at now
      exact ReceiverPhase.noConfusion now.2
    · rw [begun, goesOn]
      exact congrArg _ (congrArg searchBoundary (State.receive_nothing _ noBytes_bytes).symm)

/-- Settles O19: a header judged in VERIFY once its bytes are held. -/
theorem headerInVerify : Obligations.HeaderInVerify := by
  intro s runs verify phase held
  have on : s.receiver.state ≠ .off := by
    rw [verify]
    decide
  have run : exec (.verifyHeader runs) s = .next (takeVerifyHeader (s.lanesHold runs)) :=
    congrArg _ (congrArg _ (State.receive_on on runs))
  refine ⟨fun waiting => run.trans (congrArg _ (takeVerifyHeader_waiting waiting)), fun h carried => ?_⟩
  rw [run, takeVerifyHeader_judged (s := s.lanesHold runs) verify phase carried]
  refine ⟨fun passes => ?_, fun fails => ?_⟩
  · exact congrArg _ (congrArg s.setReceiver (if_pos ((passesVerify_iff s.receiver.lanes h).mpr passes)))
  · exact congrArg _ (congrArg s.setReceiver (if_neg (mt (passesVerify_iff s.receiver.lanes h).mp fails)))

/-- Settles O20: the boundaries of VERIFY, and the entry to LOCKED. -/
theorem verifyToLocked : Obligations.VerifyToLocked := by
  refine ⟨?_, fun s verify phase third => ⟨fun short => ?_, fun reached => ?_⟩⟩
  · intro s runs verify phase early held
    let t : State := s.lanesHold runs
    have on : s.receiver.state ≠ .off := by
      rw [verify]
      decide
    have run : exec (.verifyBoundary runs) s = .next (takeVerifyBoundary t) :=
      congrArg _ (congrArg _ (State.receive_on on runs))
    refine ⟨fun short => ?_, fun reached present => ?_, fun reached absent => ?_⟩
    · rw [run, takeVerifyBoundary_elsewhere fun now => short ((t.receiver.holdsBeyond_iff 4).mp now.2.2.2)]
    · rw [run, takeVerifyBoundary_reached (s := t) verify phase early reached, if_pos (t.receiver.aligned_iff.mpr present)]
      rfl
    · rw [run, takeVerifyBoundary_reached (s := t) verify phase early reached, if_neg (mt t.receiver.aligned_iff.mp absent)]
      rfl
  · exact congrArg _ (endVerify_elsewhere fun now => short now.2.2.2)
  · exact congrArg _ (if_pos ((canLock_iff s.receiver).mpr ⟨verify, phase, third, reached⟩))

/-- Settles O21: a trusted boundary of LOCKED, present or absent. -/
theorem boundaryInLocked : Obligations.BoundaryInLocked := by
  intro s runs locked phase held
  let t : State := s.lanesHold runs
  have on : s.receiver.state ≠ .off := by
    rw [locked]
    decide
  have run : exec (.lockedBoundary runs) s = .next (takeLockedBoundary t) :=
    congrArg _ (congrArg _ (State.receive_on on runs))
  refine ⟨fun short => ?_, fun reached present => ?_, fun reached absent => ?_⟩
  · rw [run, takeLockedBoundary_elsewhere fun now => short ((t.receiver.holdsBeyond_iff 4).mp now.2.2)]
  · rw [run, takeLockedBoundary_reached (s := t) locked phase reached, if_pos (t.receiver.aligned_iff.mpr present)]
    rfl
  · rw [run, takeLockedBoundary_reached (s := t) locked phase reached, if_neg (mt t.receiver.aligned_iff.mp absent), loseLock_eq]
    rfl

/-- Settles O22: a header of LOCKED, by its goodness, its length and the count of those before it that were not good. -/
theorem headerInLocked : Obligations.HeaderInLocked := by
  intro s runs locked phase held
  have on : s.receiver.state ≠ .off := by
    rw [locked]
    decide
  have run : exec (.lockedHeader runs) s = .next (takeLockedHeader (s.lanesHold runs)) :=
    congrArg _ (congrArg _ (State.receive_on on runs))
  refine ⟨fun waiting => run.trans (congrArg _ (takeLockedHeader_waiting waiting)), ?_⟩
  intro h carried rest
  let t : State := s.setReceiver { s.receiver with held := rest }
  have judged : exec (.lockedHeader runs) s = .next (judgeLocked h t) :=
    run.trans (congrArg _ (takeLockedHeader_judged (s := s.lanesHold runs) locked phase carried))
  rw [judged]
  refine ⟨fun kind good known accepted => ?_, fun kind good known other => ?_, fun bad first passes => ?_, fun bad first fails => ?_,
    fun bad second => ?_⟩
  · rw [judgeLocked_good (s := t) good known]
    exact congrArg _ (if_pos accepted)
  · rw [judgeLocked_good (s := t) good known]
    exact congrArg _ (if_neg (Bool.eq_false_iff.mp other))
  · rw [judgeLocked_bad (s := t) bad, takeBadHeader_first (s := t) first, if_pos passes]
    rfl
  · rw [judgeLocked_bad (s := t) bad, takeBadHeader_first (s := t) first, if_neg (Bool.eq_false_iff.mp fails)]
    rfl
  · rw [judgeLocked_bad (s := t) bad, takeBadHeader_second (s := t) second, loseLock_eq]
    rfl

end Sys2Proof
end

section
/-! Packets: those not passed on, and a META_ROW in frame (04 R71, R73, R75; 05 R86, R92, R94). -/

namespace Sys2Proof.Machine

variable {s : State} {runs : LaneRuns} {h : BitVec 64}

/-! ### A packet in progress -/

section InProgress

variable (locked : s.receiver.state = .locked) (phase : s.receiver.phase = .payload) (packet : s.receiver.packet = some h)

include locked phase packet

theorem takePacket_waiting (between : List NoticeStep)
    (waiting : rebuild s.receiver.lanes (valuesOf s.receiver.held) (bodyBytes (headerLength h)) = none) : takePacket between s = s := by
  rw [takePacket, packet]
  dsimp only
  rw [if_pos ⟨locked, phase⟩, Receiver.bytes_eq, waiting]

theorem takePacket_carried (between : List NoticeStep) {body : List Byte}
    (carried : rebuild s.receiver.lanes (valuesOf s.receiver.held) (bodyBytes (headerLength h)) = some body) :
    takePacket between s = completePacket between h body s := by
  rw [takePacket, packet]
  dsimp only
  rw [if_pos ⟨locked, phase⟩, Receiver.bytes_eq, carried]

end InProgress

theorem trailerPasses_iff (n : Nat) (body : List Byte) : trailerPasses n body = true ↔
    n = 0 ∨ leValue ((body.drop n).take 4) = (crc32 (body.take n)).toNat := by
  rw [trailerPasses, Bool.or_eq_true, decide_eq_true_eq, beq_iff_eq]

/-- A packet that completes is passed on, whatever comes between its notices. -/
theorem exec_packetComplete {payload : List Byte} (complete : s.completes runs h payload) (between : List NoticeStep) :
    exec (.packetComplete ⟨runs, between⟩) s = .next (passPacket between h payload (s.packetTaken runs h)) :=
  congrArg Host.Outcome.next (takePacket_completes complete between)

/-! ### A packet passed to the tracker, by its kind -/

section Kinds

variable (between : List NoticeStep) (payload : List Byte)

theorem passPacket_frameStart (kind : headerKind h = some .frameStart) :
    passPacket between h payload s =
      takeFrameStart (headerNumber h) (BitVec.ofNat 16 (leValue (payload.take 2)))
        (BitVec.ofNat 16 (leValue ((payload.drop 2).take 2))) (payload.getD 4 0) s := by
  simp only [passPacket, kind, formatOf]

theorem passPacket_metaRow (kind : headerKind h = some .metaRow) : passPacket between h payload s = takeMetaRow payload s := by
  rw [passPacket, kind]

theorem passPacket_pixelRow (kind : headerKind h = some .pixelRow) :
    passPacket between h payload s = takePixelRow between (headerNumber h).toNat payload s := by
  rw [passPacket, kind]

theorem passPacket_frameEnd (kind : headerKind h = some .frameEnd) :
    passPacket between h payload s = takeFrameEnd between (headerNumber h) s := by
  rw [passPacket, kind]

theorem passPacket_fill (kind : headerKind h = some .fill) : passPacket between h payload s = s := by
  rw [passPacket, kind]

/-- Out of frame a META_ROW, PIXEL_ROW or FRAME_END is a stray. -/
theorem passPacket_stray (idle : s.tracker.state = .idle)
    (kind : headerKind h = some .metaRow ∨ headerKind h = some .pixelRow ∨ headerKind h = some .frameEnd) :
    passPacket between h payload s = s.setTracker { s.tracker with strayPackets := s.tracker.strayPackets + 1 } := by
  rcases kind with kind | kind | kind
  · rw [passPacket_metaRow _ _ kind, takeMetaRow, idle]
  · rw [passPacket_pixelRow _ _ kind, takePixelRow, if_pos idle]
  · rw [passPacket_frameEnd _ _ kind, takeFrameEnd, if_pos idle]

end Kinds

/-! ### A META_ROW in frame -/

theorem takeMetaRow_taken (payload : List Byte) (header : s.tracker.state = .header)
    (room : s.tracker.banks[s.tracker.currentBank].rows < 4) :
    takeMetaRow payload s =
      { s with
        tracker :=
          { s.tracker with
            deadline := s.deadlineNow
            banks :=
              s.tracker.banks.set s.tracker.currentBank (s.tracker.banks[s.tracker.currentBank].append payload) } } := by
  have inFrame : s.tracker.state ≠ .idle := by
    rw [header]
    decide
  let taken : State :=
    s.setTracker { s.tracker with banks := s.tracker.banks.set s.tracker.currentBank (s.tracker.bank.append payload) }
  have run : takeMetaRow payload s = restartDeadline taken := by
    rw [takeMetaRow, header]
    exact if_pos room
  rw [run, restartDeadline_eq taken inFrame]
  rfl

theorem takeMetaRow_refused (payload : List Byte) (inFrame : s.tracker.state ≠ .idle)
    (refused : s.tracker.state = .body ∨ 4 ≤ s.tracker.banks[s.tracker.currentBank].rows) :
    takeMetaRow payload s =
      { s with tracker := { s.tracker with deadline := s.deadlineNow, orderErrors := s.tracker.orderErrors + 1 } } := by
  let counted : State := s.setTracker { s.tracker with orderErrors := s.tracker.orderErrors + 1 }
  have run : takeMetaRow payload s = restartDeadline counted := by
    cases state : s.tracker.state with
    | idle => exact absurd state inFrame
    | body => rw [takeMetaRow, state]
    | header =>
      have full : ¬s.tracker.bank.rows < Config.metaRows :=
        Nat.not_lt.mpr (refused.resolve_left fun body => TrackerState.noConfusion (state.symm.trans body))
      rw [takeMetaRow, state]
      exact if_neg full
  rw [run, restartDeadline_eq counted inFrame]
  rfl

end Sys2Proof.Machine

namespace Sys2Proof
open Sys2Proof.Machine

/-- Settles O23: a packet incomplete, refused by its trailer, consumed or stray, and the events not waited for. -/
theorem packetsNotPassedOn : Obligations.PacketsNotPassedOn := by
  refine ⟨?_, ?_, ?_⟩
  · intro s runs between h locked phase packet carried
    let t : State := s.lanesHold runs
    have on : s.receiver.state ≠ .off := by
      rw [locked]
      decide
    have run : exec (.packetComplete ⟨runs, between⟩) s = .next (takePacket between t) :=
      congrArg _ (congrArg _ (State.receive_on on runs))
    refine ⟨fun waiting => ?_, ?_⟩
    · rw [run, takePacket_waiting (s := t) locked phase packet between waiting]
    · intro body complete full wrong u
      have fails : ¬trailerPasses (headerLength h) body = true := fun passes =>
        ((trailerPasses_iff _ _).mp passes).elim full wrong
      have taken : t.setReceiver t.receiver.endPacket = u := State.packetTaken_eq packet
      rw [run, takePacket_carried (s := t) locked phase packet between complete, completePacket, if_neg fails, ← taken]
      rfl
  · intro s runs between h payload complete u
    refine ⟨fun kind => ?_, fun idle kind => ?_⟩
    · rw [exec_packetComplete complete, passPacket_fill _ _ kind]
    · rw [exec_packetComplete complete, passPacket_stray (s := u) _ _ idle kind]
      rfl
  · intro s runs between on
    have received : s.receive runs = s.lanesHold runs := State.receive_on on runs
    refine ⟨fun idle => ?_, fun idle => ?_, fun idle => ?_, fun idle => ?_, fun idle => ?_, fun idle => ?_⟩
    · exact congrArg _ ((congrArg _ received).trans (takeVerifyHeader_elsewhere idle))
    · exact congrArg _ ((congrArg _ received).trans
        (takeVerifyBoundary_elsewhere fun ⟨verify, phase, early, _⟩ => idle ⟨verify, phase, early⟩))
    · exact congrArg _ (endVerify_elsewhere fun ⟨verify, phase, third, _⟩ => idle ⟨verify, phase, third⟩)
    · exact congrArg _ ((congrArg _ received).trans
        (takeLockedBoundary_elsewhere fun ⟨locked, phase, _⟩ => idle ⟨locked, phase⟩))
    · exact congrArg _ ((congrArg _ received).trans (takeLockedHeader_elsewhere idle))
    · exact congrArg _ ((congrArg _ received).trans (takePacket_elsewhere idle))

/-- Settles O24: a META_ROW taken or refused. -/
theorem metaRowInFrame : Obligations.MetaRowInFrame := by
  intro s runs between h payload complete kind inFrame u bank
  refine ⟨fun header room => ?_, fun refused => ?_⟩
  · rw [exec_packetComplete complete, passPacket_metaRow _ _ kind, takeMetaRow_taken (s := u) payload header room]
    rfl
  · rw [exec_packetComplete complete, passPacket_metaRow _ _ kind, takeMetaRow_refused (s := u) payload inFrame refused]
    rfl

end Sys2Proof
end

section
/-! Frames in progress: what the notices of a PIXEL_ROW, a FRAME_END, a truncation and an ABORT leave, and what they make of a channel
(05 R87 to R92; 06 Tables 6-1 and 6-2). -/

namespace Sys2Proof.Machine

/-! ### Notices, whatever the tracker's own values -/

/-- The notices do not depend on the values that the tracker keeps to itself. -/
theorem State.Noticed.setTracker {s t : State} (h : s.Noticed t) (x : Tracker) : (s.setTracker x).Noticed (t.setTracker x) where
  withdraws :=
    { same :=
        { run := h.withdraws.same.run
          enables := h.withdraws.same.enables
          timebase := h.withdraws.same.timebase
          receiver := h.withdraws.same.receiver
          tracker := rfl
          plan := h.withdraws.same.plan
          allocations := h.withdraws.same.allocations
          entries := h.withdraws.same.entries
          pointer := h.withdraws.same.pointer
          pending := h.withdraws.same.pending
          flags := h.withdraws.same.flags
          issued := h.withdraws.same.issued
          quiet := h.withdraws.same.quiet }
      attention := h.withdraws.attention
      scanners := h.withdraws.scanners
      requests := h.withdraws.requests }
  kept := h.kept

/-- What notices leave of every block but channels, requests and port. -/
theorem State.Withdraws.rest {s t : State} (h : s.Withdraws t) :
    { t with channels := s.channels, queue := s.queue, port := s.port } = s := by
  rw [h.same.run, h.attention, h.same.timebase, h.same.receiver, h.same.tracker, h.same.plan, h.scanners, h.same.allocations,
    h.same.pending]

theorem State.metadataClosed_noticed (s : State) : s.Noticed s.metadataClosed := closeMetadata_eq s ▸ closeMetadata_noticed s

theorem State.resolves_noticed (s : State) (row : Nat) (payload : Option (List Byte)) : s.Noticed (s.resolves [] row payload) :=
  resolveRow_eq s [] payload row ▸ resolveRow_noticed s payload row

theorem State.resolvesMissing_noticed (s : State) (first count : Nat) : s.Noticed (s.resolvesMissing [] first count) :=
  resolveMissing_eq s [] first count ▸ resolveMissing_noticed s first count

/-- A PIXEL_ROW in frame is made of notices and of moves of the tracker. -/
theorem takePixelRow_noticed (s : State) (row : Nat) (payload : List Byte) (inFrame : s.tracker.state ≠ .idle) :
    ∃ x, (s.setTracker x).Noticed (takePixelRow [] row payload s) := by
  rw [takePixelRow_inFrame s [] row payload inFrame]
  dsimp only
  split
  · exact ⟨_, s.metadataClosed_noticed.setTracker _⟩
  · have opened := s.metadataClosed_noticed.setTracker { s.tracker with state := .body, deadline := s.deadlineNow }
    have told := (opened.trans (State.resolvesMissing_noticed _ s.tracker.nextRow (row - s.tracker.nextRow))).trans
      (State.resolves_noticed _ row (some payload))
    exact ⟨_, told.setTracker _⟩

/-! ### The end of a frame -/

section FrameEnds

variable {s : State}

theorem frameEnds_noFetch (busy : ¬(s.run.state = .running ∧ s.plan.fetch = .quiet)) :
    s.frameEnds = { s with queue := s.joined .linkTally } := if_neg busy

theorem frameEnds_fetch (quiet : s.run.state = .running ∧ s.plan.fetch = .quiet) :
    s.frameEnds =
      { s with
        queue := s.joined .linkTally
        plan := { s.plan with fetch := .selector, selector := none, discard := false }
        port := s.issued .selector (.read s.run.anchor 8) } := if_pos quiet

theorem frameEnds_waitingFor : s.frameEnds.waitingFor .linkTally = true := announceEnd_eq s ▸ (announceEnd_spec s).1

theorem frameEnds_channel (k : ViewId) : s.frameEnds.channel k = s.channel k :=
  State.channel_of_channels (announceEnd_eq s ▸ (announceEnd_spec s).2.2.2.1) k

theorem frameEnds_tracker : s.frameEnds.tracker = s.tracker := announceEnd_eq s ▸ announceEnd_tracker s

theorem frameEnds_entries : s.frameEnds.queue.entries = s.queue.entries := announceEnd_eq s ▸ (announceEnd_sameRun s).entries

theorem frameEnds_pointer : s.frameEnds.queue.pointer = s.queue.pointer := announceEnd_eq s ▸ (announceEnd_sameRun s).pointer

theorem frameEnds_issued : ∃ more, s.frameEnds.port.entries = s.port.entries ++ more :=
  announceEnd_eq s ▸ (announceEnd_sameRun s).issued

theorem frameEnds_rest : { s.frameEnds with plan := s.plan, queue := s.queue, port := s.port } = s := by
  by_cases quiet : s.run.state = .running ∧ s.plan.fetch = .quiet
  · rw [frameEnds_fetch quiet]
  · rw [frameEnds_noFetch quiet]

/-- The end of a frame withdraws no metadata copy, and asks for none. -/
theorem frameEnds_not_waitingFor {k : ViewId} (withdrawn : s.waitingFor (.metadataCopy k) = false) :
    s.frameEnds.waitingFor (.metadataCopy k) = false := by
  have joined : (s.joined .linkTally).requests.any (Request.metadataCopy k).same = false := by
    unfold State.joined
    split
    · exact withdrawn
    · rw [List.any_append, Bool.or_eq_false_iff]
      exact ⟨withdrawn, rfl⟩
  by_cases quiet : s.run.state = .running ∧ s.plan.fetch = .quiet
  · rw [frameEnds_fetch quiet]
    exact joined
  · rw [frameEnds_noFetch quiet]
    exact joined

end FrameEnds

end Sys2Proof.Machine

namespace Sys2Proof
open Sys2Proof.Machine

/-- Settles O25: a row refused, a row resolved, and what any PIXEL_ROW leaves. -/
theorem pixelRowInFrame : Obligations.PixelRowInFrame := by
  intro s runs between h payload complete kind inFrame row opened
  let u : State := s.packetTaken runs h
  have run (between : List NoticeStep) : exec (.packetComplete ⟨runs, between⟩) s = .next (takePixelRow between row payload u) := by
    rw [exec_packetComplete complete, passPacket_pixelRow _ _ kind]
  refine ⟨fun refused => ?_, fun from' below => ?_, _, run [], ?_⟩
  · rw [run, takePixelRow_inFrame u between row payload inFrame]
    exact congrArg _ (if_pos refused)
  · rw [run, takePixelRow_inFrame u between row payload inFrame]
    exact congrArg _ (if_neg (not_or.mpr ⟨Nat.not_lt.mpr from', Nat.not_le.mpr below⟩))
  · obtain ⟨x, told⟩ := takePixelRow_noticed u row payload inFrame
    refine ⟨fun k notClaiming notActive => told.kept k (not_or.mpr ⟨notClaiming, notActive⟩), told.withdraws.same.entries,
      told.withdraws.same.pointer, ?_⟩
    have rest := told.withdraws.rest
    exact congrArg (fun t : State => { t with receiver := s.receiver, tracker := s.tracker }) rest

end Sys2Proof
end

section
/-! Abandonment, and the truncation of a frame by an ABORT or at its gap deadline (05 R91, R92; 06 R105, R114; 10 R168). -/

namespace Sys2Proof.Machine

variable {s : State} {k : ViewId} {v : ViewFrame}

/-! ### Abandonment, by state and first write -/

section Abandons

variable (frame : (s.channel k).frame = some v) (fresh : v.abandoned = none) (cause : OutcomeCause) (time : DWord)

include frame fresh

/-- Without a first write the channel waits in RETURNING. -/
theorem abandons_returning
    (early : (s.channel k).state = .claiming ∨ ((s.channel k).state = .active ∧ v.firstWrite = .notIssued)) :
    (s.abandons cause time k).channel k = { s.channel k with state := .returning, frame := some (leftBehind v cause time) } := by
  rw [← abandonFrame_eq, ← ViewFrame.dropped_mark]
  rcases early with claiming | ⟨active, notIssued⟩
  · exact abandonFrame_claiming s cause time v claiming frame fresh
  · rw [abandonFrame_active s cause time v active frame fresh, notIssued]

/-- With the first write outstanding the channel goes on in FLUSHING. -/
theorem abandons_outstanding (active : (s.channel k).state = .active) (outstanding : v.firstWrite = .outstanding) :
    (s.abandons cause time k).channel k = { s.channel k with state := .flushing, frame := some (leftBehind v cause time) } := by
  rw [← abandonFrame_eq, ← ViewFrame.dropped_mark, abandonFrame_active s cause time v active frame fresh, outstanding]

/-- With a FILLING slot what is admitted stays. -/
theorem abandons_exchanged (active : (s.channel k).state = .active) (exchanged : v.firstWrite = .exchanged) :
    (s.abandons cause time k).channel k =
      { s.channel k with
        state := .flushing, frame := some { leftBehind v cause time with staging := withdrawnFrom v.staging } } := by
  rw [← abandonFrame_eq, ← ViewFrame.withdrawn_mark, abandonFrame_active s cause time v active frame fresh, exchanged]

/-- A TAKEN slot is given back. -/
theorem abandons_givesBack (live : s.live) (active : (s.channel k).state = .active) (notIssued : v.firstWrite = .notIssued)
    {x : Slot} (slot : v.slot = some x) :
    ∃ e ∈ (s.abandons cause time k).port.entries, e.role = .giveBack k
      ∧ e.access = .compareExchange (s.slotAddress x.pool x.index) x.word (recoded x.word 0x01) := by
  have run : s.abandons cause time k = (s.put k .returning (leftBehind v cause time)).exchanges (.giveBack k) x 0x01 := by
    rw [State.abandons, frame]
    dsimp only
    rw [if_neg (not_not.mpr fresh), active, notIssued, slot]
  rw [run, State.exchanges_live (s.put k .returning (leftBehind v cause time)) live]
  exact ⟨_, List.mem_append_right _ List.mem_cons_self, rfl, rfl⟩

/-- Whatever else becomes of it, an open view frame carries its cause and end timestamp, and nothing accumulated. -/
theorem abandons_opened (opened : (s.channel k).opened) :
    ∃ w, ((s.abandons cause time k).channel k).frame = some w
      ∧ w = { leftBehind v cause time with staging := w.staging } := by
  rcases opened with claiming | active
  · exact ⟨_, congrArg Channel.frame (abandons_returning frame fresh cause time (.inl claiming)), rfl⟩
  · cases first : v.firstWrite with
    | notIssued => exact ⟨_, congrArg Channel.frame (abandons_returning frame fresh cause time (.inr ⟨active, first⟩)), rfl⟩
    | outstanding => exact ⟨_, congrArg Channel.frame (abandons_outstanding frame fresh cause time active first), rfl⟩
    | exchanged => exact ⟨_, congrArg Channel.frame (abandons_exchanged frame fresh cause time active first), rfl⟩

end Abandons

theorem State.slotAddress_of_scanners {s t : State} (h : t.scanners = s.scanners) (p : PoolId) (index : Nat) :
    t.slotAddress p index = s.slotAddress p index := by
  rw [State.slotAddress, State.slotAddress, State.scanner_of_scanners h]

/-- What is issued stays outstanding while other channels are told. -/
theorem State.SameBlocks.mem_entries {s t : State} (h : s.SameBlocks t) {e : PortEntry} (issued : e ∈ s.port.entries) :
    e ∈ t.port.entries := by
  obtain ⟨new, entries⟩ := h.issued
  rw [entries]
  exact List.mem_append_left new issued

/-- Only an ACTIVE channel issues its first write or enters FLUSHING by itself. -/
theorem advances_elsewhere (notActive : (s.channel k).state ≠ .active) : s.advances k = s := by
  have never {p : Prop} : ¬((s.channel k).state = .active ∧ p) := fun now => notActive now.1
  unfold State.advances
  split
  · rfl
  · split
    · rw [if_neg never, if_neg never]
    · rw [if_neg never]

/-! ### Truncation -/

/-- The tracker once a truncation is counted. -/
def Tracker.truncated (cause : OutcomeCause) (x : Tracker) : Tracker :=
  { x with
    state := .idle
    deadline := none
    framesTruncated := x.framesTruncated + 1
    gapTimeouts := x.gapTimeouts + (if cause = .gapTimeout then 1 else 0) }

/-- A frame truncated, before its end is announced. -/
def State.truncatedViews (cause : OutcomeCause) (s : State) : State :=
  (s.metadataClosed.setTracker (s.tracker.truncated cause)).eachView (truncationNotice cause s.timebase)

section Truncation

variable (cause : OutcomeCause)

theorem truncates_idle (idle : s.tracker.state = .idle) : s.truncates cause = s := if_pos idle

theorem truncates_inFrame (inFrame : s.tracker.state ≠ .idle) : s.truncates cause = (s.truncatedViews cause).frameEnds := by
  have each : truncationNotice cause s.timebase = State.takesTruncation cause s.timebase := by
    funext k t
    exact truncationNotice_eq t cause _ k
  rw [State.truncates, if_neg inFrame, State.truncatedViews, State.eachView_eq, each]
  rfl

theorem truncatedViews_noticed : (s.setTracker (s.tracker.truncated cause)).Noticed (s.truncatedViews cause) :=
  (s.metadataClosed_noticed.setTracker _).trans (.eachView _ fun k t => truncationNotice_noticed t cause s.timebase k)

theorem truncates_kept (closed : ¬(s.channel k).opened) : (s.truncates cause).channel k = s.channel k :=
  truncateFrame_eq s cause ▸ (truncateFrame_spec s cause).2.2.1 k closed

theorem truncates_waitingFor (inFrame : s.tracker.state ≠ .idle) : (s.truncates cause).waitingFor .linkTally = true :=
  truncateFrame_eq s cause ▸ (truncateFrame_spec s cause).2.2.2 inFrame

theorem truncates_sameRun : s.SameRun (s.truncates cause) := truncateFrame_eq s cause ▸ truncateFrame_sameRun s cause

theorem truncates_tracker : (s.truncates cause).tracker =
    if s.tracker.state = .idle then s.tracker else s.tracker.truncated cause := by
  by_cases idle : s.tracker.state = .idle
  · rw [truncates_idle cause idle, if_pos idle]
  · rw [truncates_inFrame cause idle, frameEnds_tracker, (truncatedViews_noticed cause).withdraws.same.tracker, if_neg idle]
    rfl

theorem truncates_rest :
    { s.truncates cause with
      tracker := s.tracker, plan := s.plan, channels := s.channels, queue := s.queue, port := s.port } = s := by
  by_cases idle : s.tracker.state = .idle
  · rw [truncates_idle cause idle]
  · have told := (truncatedViews_noticed (s := s) cause).withdraws.rest
    have ended := frameEnds_rest (s := s.truncatedViews cause)
    rw [truncates_inFrame cause idle]
    generalize (s.truncatedViews cause).frameEnds = t at ended ⊢
    generalize s.truncatedViews cause = u at told ended
    exact (congrArg
        (fun x : State =>
          { x with tracker := s.tracker, plan := s.plan, channels := s.channels, queue := s.queue, port := s.port }) ended).trans
      (congrArg (fun x : State => { x with tracker := s.tracker, plan := s.plan }) told)

theorem truncates_not_waitingFor (withdrawn : s.waitingFor (.metadataCopy k) = false) :
    (s.truncates cause).waitingFor (.metadataCopy k) = false := by
  by_cases idle : s.tracker.state = .idle
  · rw [truncates_idle cause idle]
    exact withdrawn
  · rw [truncates_inFrame cause idle]
    exact frameEnds_not_waitingFor ((truncatedViews_noticed cause).withdraws.not_waitingFor withdrawn)

/-- A CLAIMING channel stays CLAIMING at a metadata notice. -/
theorem metadataClosed_claiming (claiming : (s.channel k).state = .claiming) (frame : (s.channel k).frame = some v) :
    ∃ w, s.metadataClosed.channel k = { s.channel k with frame := some w } ∧ w.abandoned = v.abandoned
      ∧ w.windowComplete = v.windowComplete := by
  rw [← closeMetadata_eq, closeMetadata]
  split
  · obtain ⟨t, -, same, -, channel⟩ := s.eachView_noticed
      (fun k t => (metadataNotice_noticed t s.tracker.bank.bytes.length s.tracker.bank.truncated k).withdraws)
      (fun i j t other => metadataNotice_other t other _ _) k
    rw [channel, metadataNotice_eq t s.tracker.bank k, State.takesMetadata, same, frame]
    dsimp only
    split
    · rw [advances_elsewhere (by rw [State.channel_put_same, claiming]; decide), State.channel_put_same, same]
      exact ⟨_, rfl, rfl, rfl⟩
    · exact ⟨v, by rw [same, ← frame], rfl, rfl⟩
  · exact ⟨v, by rw [← frame], rfl, rfl⟩

/-- A CLAIMING view frame in production waits in RETURNING for its claim once the frame is truncated. -/
theorem truncates_claiming (inFrame : s.tracker.state ≠ .idle) (claiming : (s.channel k).state = .claiming)
    (frame : (s.channel k).frame = some v) (incomplete : v.windowComplete = false) (fresh : v.abandoned = none) :
    ∃ w, (s.truncates cause).channel k = { s.channel k with state := .returning, frame := some w }
      ∧ w.abandoned = some cause ∧ w.endTime = s.timebase := by
  obtain ⟨x, closed, freshAfter, incompleteAfter⟩ := metadataClosed_claiming claiming frame
  let u : State := s.metadataClosed.setTracker (s.tracker.truncated cause)
  obtain ⟨t, -, same, -, channel⟩ := u.eachView_noticed (f := truncationNotice cause s.timebase)
    (fun k t => (truncationNotice_noticed t cause s.timebase k).withdraws) (fun i j t other => truncationNotice_other t other _ _) k
  have standing : t.channel k = { s.channel k with frame := some x } := same.trans closed
  have stillClaiming : (t.channel k).state = .claiming := by rw [standing]; exact claiming
  have here : (t.channel k).frame = some x := by rw [standing]
  have produces : (t.channel k).produces x := ⟨.inl stillClaiming, freshAfter.trans fresh, incompleteAfter.trans incomplete⟩
  refine ⟨leftBehind x cause s.timebase, ?_, rfl, rfl⟩
  rw [truncates_inFrame cause inFrame, frameEnds_channel]
  refine channel.trans ?_
  rw [truncationNotice_eq, State.takesTruncation, here]
  dsimp only
  rw [if_pos produces, abandons_returning here produces.2.1 cause s.timebase (.inl stillClaiming), standing]

end Truncation

/-! ### ABORT -/

/-- An ABORT given to every channel, before the frame in progress is truncated. -/
def State.abortedViews (s : State) : State := s.eachView (abortChannel s.timebase)

section Abort

theorem abortedViews_eq : s.abortedViews = eachOf (State.takesAbort s.timebase) s := by
  have each : abortChannel s.timebase = State.takesAbort s.timebase := by
    funext k x
    exact abortChannel_eq x _ k
  rw [State.abortedViews, State.eachView_eq, each]

theorem abortedViews_noticed : s.Noticed s.abortedViews := .eachView s fun k x => abortChannel_noticed x _ k

/-- An open channel is abandoned, in a state that the ABORT of other channels has left. -/
theorem abortedViews_opened (opened : (s.channel k).opened) :
    ∃ x, s.Withdraws x ∧ x.channel k = s.channel k ∧ (x.abandons .aborted s.timebase k).Withdraws s.abortedViews
      ∧ s.abortedViews.channel k = (x.abandons .aborted s.timebase k).channel k := by
  obtain ⟨x, before, same, after, channel⟩ := s.eachView_noticed (f := abortChannel s.timebase)
    (fun k x => (abortChannel_noticed x _ k).withdraws) (fun i j x other => abortChannel_other x other _) k
  have run : abortChannel s.timebase k x = x.abandons .aborted s.timebase k := by
    rw [abortChannel_eq, State.takesAbort, same]
    exact if_pos opened
  rw [run] at after channel
  exact ⟨x, before, same, after, channel⟩

theorem abort_kept (closed : ¬(s.channel k).opened) : (s.abortedViews.truncates .aborted).channel k = s.channel k := by
  have same := abortedViews_noticed.kept k closed
  rw [truncates_kept .aborted (by rw [same]; exact closed), same]

/-- An abandoned channel is left where its abandonment put it. -/
theorem abort_abandoned {x : State} {w : ViewFrame} {state : ChannelState} (closed : state ≠ .claiming ∧ state ≠ .active)
    (same : x.channel k = s.channel k) (abandoned : s.abortedViews.channel k = (x.abandons .aborted s.timebase k).channel k)
    (left : (x.abandons .aborted s.timebase k).channel k = { x.channel k with state := state, frame := some w }) :
    (s.abortedViews.truncates .aborted).channel k = { s.channel k with state := state, frame := some w } := by
  have here : s.abortedViews.channel k = { s.channel k with state := state, frame := some w } := by rw [abandoned, left, same]
  rw [truncates_kept .aborted (by rw [here]; exact not_or.mpr closed), here]

end Abort

end Sys2Proof.Machine

namespace Sys2Proof
open Sys2Proof.Machine

/-- Settles O32: the gap deadline reached in frame, and out of frame or unarmed. -/
theorem gapDeadlineTruncates : Obligations.GapDeadlineTruncates := by
  refine ⟨fun s d inFrame armed => ?_, fun s disarmed => ?_⟩
  · let u : State := { s with timebase := d }
    have expired : s.inFrame = true := by
      rw [State.inFrame]
      exact bne_iff_ne.mpr inFrame
    have run : exec .gapTimeout s = .next (u.truncates .gapTimeout) := by
      rw [← truncateFrame_eq]
      refine congrArg Host.Outcome.next ?_
      rw [expireGap, armed]
      exact if_pos expired
    refine ⟨run, _, run, ?_, truncates_waitingFor (s := u) _ inFrame, fun k notClaiming notActive => ?_,
      fun k v claiming frame incomplete fresh => truncates_claiming (s := u) _ inFrame claiming frame incomplete fresh,
      (truncates_sameRun (s := u) _).entries, (truncates_sameRun (s := u) _).pointer, ?_⟩
    · rw [truncates_tracker, if_neg inFrame]
      rfl
    · exact truncates_kept (s := u) _ (not_or.mpr ⟨notClaiming, notActive⟩)
    · exact congrArg (fun t : State => { t with timebase := s.timebase }) (truncates_rest (s := u) .gapTimeout)
  · refine congrArg Host.Outcome.next ?_
    unfold expireGap
    split
    · next d armed =>
      have idle : s.tracker.state = .idle := disarmed.resolve_right (by rw [armed]; exact Option.some_ne_none d)
      exact if_neg (by rw [State.inFrame, idle]; decide)
    · rfl

/-- Settles O7: the channels abandoned, then the frame in progress truncated. -/
theorem abortInRun : Obligations.AbortInRun := by
  intro s running accepted t
  have views : t = accepted.abortedViews.truncates .aborted := by
    rw [abortedViews_eq]
  have told : accepted.Noticed accepted.abortedViews := abortedViews_noticed
  have tracker : accepted.abortedViews.tracker = s.tracker := told.withdraws.same.tracker
  have ended := truncates_sameRun (s := accepted.abortedViews) .aborted
  have live : accepted.live := live_of_aborting (s := accepted) rfl
  refine ⟨?_, ?_, fun inFrame => ?_, fun k notClaiming notActive => ?_, fun k v claiming frame fresh => ?_,
    fun k v active frame fresh => ?_, ?_, ?_, ?_⟩ <;> rw [views]
  · refine congrArg Host.Outcome.next ?_
    rw [← truncateFrame_eq]
    exact takeAbort_inRun s running
  · rw [truncates_tracker, tracker]
    by_cases idle : s.tracker.state = .idle
    · rw [if_pos idle, if_pos idle, if_pos idle, ← idle]
      simp
    · simp [idle, Tracker.truncated]
  · exact truncates_waitingFor _ (by rw [tracker]; exact inFrame)
  · exact abort_kept (s := accepted) (not_or.mpr ⟨notClaiming, notActive⟩)
  · obtain ⟨x, -, same, -, abandoned⟩ := abortedViews_opened (s := accepted) (k := k) (.inl claiming)
    have standing : x.channel k = s.channel k := same
    exact abort_abandoned (s := accepted) (by decide) same abandoned
      (abandons_returning (by rw [standing]; exact frame) fresh _ _ (.inl (by rw [standing]; exact claiming)))
  · obtain ⟨x, before, same, after, abandoned⟩ := abortedViews_opened (s := accepted) (k := k) (.inr active)
    have standing : x.channel k = s.channel k := same
    have here : (x.channel k).frame = some v := by rw [standing]; exact frame
    have state : (x.channel k).state = .active := by rw [standing]; exact active
    have outcome {w : ViewFrame} {c : ChannelState} (closed : c ≠ .claiming ∧ c ≠ .active) :=
      abort_abandoned (s := accepted) (w := w) closed same abandoned
    refine ⟨fun notIssued => ⟨outcome (by decide) (abandons_returning here fresh _ _ (.inr ⟨state, notIssued⟩)), fun y slot => ?_⟩,
      fun outstanding => outcome (by decide) (abandons_outstanding here fresh _ _ state outstanding),
      fun exchanged => ⟨outcome (by decide) (abandons_exchanged here fresh _ _ state exchanged), ?_⟩⟩
    · have liveThere : x.live := by rw [State.live, before.same.run]; exact live
      obtain ⟨e, issued, role, access⟩ := abandons_givesBack here fresh .aborted s.timebase liveThere state notIssued slot
      obtain ⟨more, entries⟩ := ended.issued
      refine ⟨e, ?_, role, ?_⟩
      · rw [entries]
        exact List.mem_append_left more (after.same.mem_entries issued)
      · rw [access, State.slotAddress_of_scanners before.scanners]
        rfl
    · refine truncates_not_waitingFor .aborted (after.not_waitingFor ?_)
      rw [abandons_filling x here fresh exchanged (.inl state)]
      exact waitingFor_metadataCopy_filter _ x.queue k
  · have rest := truncates_rest (s := accepted.abortedViews) .aborted
    have first := told.withdraws.rest
    generalize accepted.abortedViews.truncates .aborted = z at rest
    generalize accepted.abortedViews = y at rest first
    exact (congrArg
        (fun x : State =>
          { x with
            run := s.run, tracker := s.tracker, plan := s.plan, channels := s.channels, queue := s.queue, port := s.port }) rest).trans
      (congrArg (fun x : State => { x with run := s.run, tracker := s.tracker, plan := s.plan }) first)
  · exact ended.entries.trans told.withdraws.same.entries
  · exact ended.pointer.trans told.withdraws.same.pointer

end Sys2Proof
end

section
/-! Row notices as one channel takes them, and the end of a frame (05 R89, R90; 07 R120 to R131; 09 R149). -/

namespace Sys2Proof.Machine

variable {s : State} {k : ViewId} {v : ViewFrame}

/-! ### What a view frame keeps of a row -/

section RowTaken

variable (v) (place : RowPlace) (payload : Option (List Byte))

theorem rowTaken_keeps :
    (rowTaken v place payload).staging = v.staging ∧ (rowTaken v place payload).period = v.period
      ∧ (rowTaken v place payload).sizes = v.sizes ∧ (rowTaken v place payload).saturated = v.saturated
      ∧ (rowTaken v place payload).holeRows = v.holeRows ∧ (rowTaken v place payload).abandoned = v.abandoned
      ∧ (rowTaken v place payload).slot = v.slot ∧ (rowTaken v place payload).group = v.group
      ∧ (rowTaken v place payload).descriptor = v.descriptor ∧ (rowTaken v place payload).firstWrite = v.firstWrite
      ∧ (rowTaken v place payload).windowComplete = v.windowComplete := by
  unfold rowTaken
  split
  · exact ⟨rfl, rfl, rfl, rfl, rfl, rfl, rfl, rfl, rfl, rfl, rfl⟩
  · cases payload <;> exact ⟨rfl, rfl, rfl, rfl, rfl, rfl, rfl, rfl, rfl, rfl, rfl⟩

theorem rowTaken_weightless (weightless : place.weight = 0) : rowTaken v place payload = v := if_pos weightless

theorem rowTaken_missing (weighs : place.weight ≠ 0) : rowTaken v place none = { v with missingRows := v.missingRows + 1 } :=
  if_neg weighs

end RowTaken

/-! ### A row notice, by the place of the row -/

section TakesRow

variable {time : DWord} {row : Nat} {place : RowPlace} (frame : (s.channel k).frame = some v) (produces : (s.channel k).produces v)

include frame produces

theorem takesRow_outside (payload : Option (List Byte)) (outside : placeRow v.period v.descriptor row = none) :
    s.takesRow time row payload k = s := by
  rw [State.takesRow, frame]
  dsimp only
  rw [if_pos produces, outside]

variable (inWindow : placeRow v.period v.descriptor row = some place)

include inWindow

theorem takesRow_eq (payload : Option (List Byte)) :
    s.takesRow time row payload k =
      if place.weight ≠ 0 ∧ payload = none ∧ v.descriptor.policy = 1 then
        (s.put k (s.channel k).state (rowTaken v place payload)).abandons .rowLoss time k
      else if place.last = false then s.put k (s.channel k).state (rowTaken v place payload)
      else if v.staging.length < 2 then
        (s.put k (s.channel k).state (groupStaged (rowTaken v place payload) time)).advances k
      else
        (s.put k (s.channel k).state
          { rowTaken v place payload with
            holeRows := (rowTaken v place payload).holeRows + (rowTaken v place payload).groupHoles }).abandons
          (if (s.channel k).state = .claiming then .lateBuffer else .overrun) time k := by
  rw [State.takesRow, frame]
  dsimp only
  rw [if_pos produces, inWindow]

theorem takesRow_lost (weighs : place.weight ≠ 0) (policy : v.descriptor.policy = 1) :
    s.takesRow time row none k =
      (s.put k (s.channel k).state { v with missingRows := v.missingRows + 1 }).abandons .rowLoss time k := by
  rw [takesRow_eq frame produces inWindow, if_pos ⟨weighs, rfl, policy⟩, rowTaken_missing v place weighs]

theorem takesRow_within {payload : Option (List Byte)} (kept : ¬(place.weight ≠ 0 ∧ payload = none ∧ v.descriptor.policy = 1))
    (within : place.last = false) : s.takesRow time row payload k = s.put k (s.channel k).state (rowTaken v place payload) := by
  rw [takesRow_eq frame produces inWindow, if_neg kept, if_pos within]

theorem takesRow_staged (payload : List Byte) (last : place.last = true) (room : v.staging.length < 2) :
    s.takesRow time row (some payload) k =
      (s.put k (s.channel k).state (groupStaged (rowTaken v place (some payload)) time)).advances k := by
  rw [takesRow_eq frame produces inWindow, if_neg fun lost => Option.some_ne_none _ lost.2.1, if_neg (by rw [last]; decide),
    if_pos room]

theorem takesRow_overflow (payload : List Byte) (last : place.last = true) (full : 2 ≤ v.staging.length) :
    s.takesRow time row (some payload) k =
      (s.put k (s.channel k).state
        { rowTaken v place (some payload) with
          holeRows := v.holeRows + (rowTaken v place (some payload)).groupHoles }).abandons
        (if (s.channel k).state = .claiming then .lateBuffer else .overrun) time k := by
  obtain ⟨-, -, -, -, holes, -⟩ := rowTaken_keeps v place (some payload)
  rw [takesRow_eq frame produces inWindow, if_neg fun lost => Option.some_ne_none _ lost.2.1, if_neg (by rw [last]; decide),
    if_neg (Nat.not_lt.mpr full), holes]

end TakesRow

/-- A row resolved makes of channel k what its notice makes of it, in a state that the notices to others have left. -/
theorem resolves_channel (s : State) (row : Nat) (payload : Option (List Byte)) (k : ViewId) :
    ∃ t, s.Withdraws t ∧ t.channel k = s.channel k
      ∧ (t.takesRow s.timebase row payload k).Withdraws (s.resolves [] row payload)
      ∧ (s.resolves [] row payload).channel k = (t.takesRow s.timebase row payload k).channel k := by
  have alone := s.eachView_noticed (f := rowNotice s.timebase row payload)
    (fun k t => (rowNotice_noticed t s.timebase row payload k).withdraws) (fun i j t other => rowNotice_other t other _ _ _) k
  simp only [rowNotice_eq] at alone
  rw [← resolveRow_eq]
  exact alone

/-! ### The first write of a channel with work -/

section Advances

variable (frame : (s.channel k).frame = some v)

include frame

theorem advances_firstWrite (active : (s.channel k).state = .active) (notIssued : v.firstWrite = .notIssued)
    (work : v.copy = .due ∨ v.staging ≠ []) {x : Slot} (slot : v.slot = some x) :
    s.advances k =
      (s.put k (if v.windowComplete then .flushing else .active) { v with firstWrite := .outstanding }).exchanges
        (.firstWrite k) x 0x03 := by
  rw [State.advances, frame]
  dsimp only
  rw [slot]
  exact if_pos ⟨active, notIssued, work⟩

/-- Without a first write to issue, only the end of the window moves the channel. -/
theorem advances_noWrite (none : ¬((s.channel k).state = .active ∧ v.firstWrite = .notIssued ∧ v.slot.isSome)) :
    s.advances k =
      if (s.channel k).state = .active ∧ v.windowComplete = true ∧ v.firstWrite ≠ .notIssued then s.put k .flushing v else s := by
  rw [State.advances, frame]
  dsimp only
  cases slot : v.slot with
  | none => rfl
  | some x => exact if_neg fun now => none ⟨now.1, now.2.1, by rw [slot]; rfl⟩

/-- The same of its channel. -/
theorem advances_noWrite_channel (none : ¬((s.channel k).state = .active ∧ v.firstWrite = .notIssued ∧ v.slot.isSome)) :
    (s.advances k).channel k =
      { s.channel k with
        state :=
          if (s.channel k).state = .active ∧ v.windowComplete = true ∧ v.firstWrite ≠ .notIssued then .flushing
          else (s.channel k).state
        frame := some v } := by
  rw [advances_noWrite frame none]
  by_cases flushes : (s.channel k).state = .active ∧ v.windowComplete = true ∧ v.firstWrite ≠ .notIssued
  · rw [if_pos flushes, if_pos flushes, State.channel_put_same]
  · rw [if_neg flushes, if_neg flushes, ← frame]

/-- A channel with a staged row issues its first write if it can, and enters FLUSHING with its window complete. -/
theorem advances_staged (work : v.staging ≠ []) :
    ∃ w, (s.advances k).channel k =
        { s.channel k with
          state :=
            if (s.channel k).state = .active ∧ w.windowComplete = true ∧ w.firstWrite ≠ .notIssued then .flushing
            else (s.channel k).state
          frame := some w }
      ∧ w = { v with firstWrite := w.firstWrite }
      ∧ (∀ x, (s.channel k).state = .active → v.firstWrite = .notIssued → v.slot = some x → w.firstWrite = .outstanding
          ∧ (s.live → ∃ e ∈ (s.advances k).port.entries, e.role = .firstWrite k
            ∧ e.access = .compareExchange (s.slotAddress x.pool x.index) x.word (recoded x.word 0x03)))
      ∧ ((s.channel k).state ≠ .active ∨ v.firstWrite ≠ .notIssued → w.firstWrite = v.firstWrite) := by
  by_cases writes : (s.channel k).state = .active ∧ v.firstWrite = .notIssued ∧ v.slot.isSome
  · obtain ⟨active, notIssued, holds⟩ := writes
    obtain ⟨x, slot⟩ := Option.isSome_iff_exists.mp holds
    have run := advances_firstWrite frame active notIssued (.inr work) slot
    refine ⟨{ v with firstWrite := .outstanding }, ?_, rfl, fun y _ _ slot' => ⟨rfl, fun live => ?_⟩, fun other => ?_⟩
    · rw [run, State.channel_exchanges, State.channel_put_same]
      cases v.windowComplete <;> simp [active]
    · obtain rfl : x = y := Option.some.inj (slot.symm.trans slot')
      rw [run, State.exchanges_live (s.put k _ { v with firstWrite := .outstanding }) live]
      exact ⟨_, List.mem_append_right _ List.mem_cons_self, rfl, rfl⟩
    · exact other.elim (absurd active) (absurd notIssued)
  · refine ⟨v, advances_noWrite_channel frame writes, rfl, fun x active notIssued slot => ?_, fun _ => rfl⟩
    exact absurd ⟨active, notIssued, by rw [slot]; rfl⟩ writes

end Advances

/-! ### A group finalized -/

section GroupStaged

variable (v) (time : DWord)

/-- What finalizing a group into a free place makes of the view frame, whether or not its window ends. -/
theorem groupStaged_keeps :
    (groupStaged v time).staging = v.staging ++ [v.cellRow]
      ∧ (groupStaged v time).accumulator = List.replicate v.period (List.replicate v.sizes.outWidth 0)
      ∧ (groupStaged v time).present = List.replicate v.period 0
      ∧ (groupStaged v time).saturated = v.saturated + BitVec.ofNat 32 v.clipped
      ∧ (groupStaged v time).holeRows = v.holeRows + v.groupHoles ∧ (groupStaged v time).abandoned = v.abandoned
      ∧ (groupStaged v time).slot = v.slot ∧ (groupStaged v time).firstWrite = v.firstWrite := by
  unfold groupStaged
  split <;> exact ⟨rfl, rfl, rfl, rfl, rfl, rfl, rfl, rfl⟩

theorem groupStaged_more (more : v.group + 1 < groupCount v.period v.descriptor) :
    (groupStaged v time).group = v.group + 1 ∧ (groupStaged v time).windowComplete = v.windowComplete := by
  rw [groupStaged, if_pos more]
  exact ⟨rfl, rfl⟩

theorem groupStaged_last (last : groupCount v.period v.descriptor ≤ v.group + 1) :
    (groupStaged v time).windowComplete = true ∧ (groupStaged v time).endTime = time := by
  rw [groupStaged, if_neg (Nat.not_lt.mpr last)]
  exact ⟨rfl, rfl⟩

end GroupStaged

/-- The next row of a frame in BODY is resolved as arrived: channel k takes its notice in a state that the notices to others have left,
and what it issues stays outstanding. -/
theorem takePixelRow_next (payload : List Byte) (body : s.tracker.state = .body) (below : s.tracker.nextRow < s.tracker.height.toNat)
    (k : ViewId) :
    ∃ z : State, z.run = s.run ∧ z.scanners = s.scanners ∧ z.channel k = s.channel k
      ∧ (takePixelRow [] s.tracker.nextRow payload s).channel k =
        (z.takesRow s.timebase s.tracker.nextRow (some payload) k).channel k
      ∧ ∀ e ∈ (z.takesRow s.timebase s.tracker.nextRow (some payload) k).port.entries,
        e ∈ (takePixelRow [] s.tracker.nextRow payload s).port.entries := by
  have inFrame : s.tracker.state ≠ .idle := by
    rw [body]
    decide
  have closed : s.metadataClosed = s := if_neg (by rw [body]; decide)
  let opened : State := s.setTracker { s.tracker with state := .body, deadline := s.deadlineNow }
  obtain ⟨x, run⟩ : ∃ x, takePixelRow [] s.tracker.nextRow payload s =
      (opened.resolves [] s.tracker.nextRow (some payload)).setTracker x := by
    rw [takePixelRow_inFrame s [] _ payload inFrame, closed]
    dsimp only
    rw [if_neg (not_or.mpr ⟨Nat.lt_irrefl _, Nat.not_le.mpr below⟩), Nat.sub_self]
    exact ⟨_, rfl⟩
  obtain ⟨z, before, same, after, channel⟩ := resolves_channel opened s.tracker.nextRow (some payload) k
  rw [run, State.channel_setTracker, State.setTracker_port]
  exact ⟨z, before.same.run, before.scanners, same, channel, fun e issued => after.same.mem_entries issued⟩

end Sys2Proof.Machine

namespace Sys2Proof
open Sys2Proof.Machine

/-- Settles O26: the next row of a frame in BODY, by its place in the window of a view frame in production. -/
theorem arrivedRowReduced : Obligations.ArrivedRowReduced := by
  intro s t runs h payload live complete kind body next below run k v frame produces state exchanged
  let u : State := s.packetTaken runs h
  obtain rfl : takePixelRow [] s.tracker.nextRow payload u = t := by
    rw [exec_packetComplete complete, passPacket_pixelRow _ _ kind, next] at run
    exact Host.Outcome.next.inj run
  obtain ⟨z, runs', scanners, standing, outcome, entries⟩ := takePixelRow_next (s := u) payload body below k
  have standing : z.channel k = s.channel k := standing
  have here : (z.channel k).frame = some v := by rw [standing]; exact frame
  have stateHere : (z.channel k).state = state := by rw [standing]
  have producesHere : (z.channel k).produces v := by rw [standing]; exact produces
  have liveHere : z.live := by rw [State.live, runs']; exact live
  have outcome : (takePixelRow [] s.tracker.nextRow payload u).channel k =
      (z.takesRow s.timebase s.tracker.nextRow (some payload) k).channel k := outcome
  have issued {role : PortRole} {x : Slot} {code : Byte}
      (made : ∃ e ∈ (z.takesRow s.timebase s.tracker.nextRow (some payload) k).port.entries, e.role = role
        ∧ e.access = .compareExchange (z.slotAddress x.pool x.index) x.word (recoded x.word code)) : exchanged role x code := by
    obtain ⟨e, outstanding, role, access⟩ := made
    refine ⟨e, entries e outstanding, role, ?_⟩
    rw [access, State.slotAddress_of_scanners scanners]
    rfl
  refine ⟨fun outside => ?_, ?_⟩
  · rw [outcome, takesRow_outside here producesHere _ outside, standing]
  intro place inWindow taken
  obtain ⟨staging, period, sizes, saturated, holes, abandoned, slot, group, descriptor, firstWrite, window⟩ :=
    rowTaken_keeps v place (some payload)
  refine ⟨fun within => ?_, fun last room => ?_, ?_⟩
  · rw [outcome, takesRow_within here producesHere inWindow (fun lost => Option.some_ne_none _ lost.2.1) within,
      State.channel_put_same, standing]
  · let g : ViewFrame := groupStaged taken s.timebase
    let y : State := z.put k state g
    have staged : z.takesRow s.timebase s.tracker.nextRow (some payload) k = y.advances k := by
      rw [takesRow_staged here producesHere inWindow payload last room, stateHere]
    have put : y.channel k = { s.channel k with state := state, frame := some g } := by
      rw [State.channel_put_same, standing]
    obtain ⟨gStaging, gAccumulator, gPresent, gSaturated, gHoles, gAbandoned, gSlot, gFirstWrite⟩ := groupStaged_keeps taken s.timebase
    obtain ⟨w, advanced, same, writes, waits⟩ := advances_staged (s := y) (k := k) (v := g) (by rw [put]) (by rw [gStaging]; simp)
    rw [put] at advanced writes waits
    rw [staged] at outcome issued
    refine ⟨w, outcome.trans advanced, ?_, ?_, ?_, ?_, ?_, ?_, ?_, fun more => ?_, fun ends => ?_, fun x active notIssued held => ?_,
      fun other => ?_⟩
    · rw [same, ← staging]
      exact gStaging
    · rw [same, ← period, ← sizes]
      exact gAccumulator
    · rw [same, ← period]
      exact gPresent
    · rw [same, ← saturated]
      exact gSaturated
    · rw [same, ← holes]
      exact gHoles
    · rw [same]
      exact gAbandoned.trans (abandoned.trans produces.2.1)
    · rw [same]
      exact gSlot.trans slot
    · rw [← period, ← descriptor, ← group] at more
      obtain ⟨onward, open'⟩ := groupStaged_more taken s.timebase more
      rw [same, ← group]
      exact ⟨onward, open'.trans (window.trans produces.2.2)⟩
    · rw [← period, ← descriptor, ← group] at ends
      rw [same]
      exact groupStaged_last taken s.timebase ends
    · obtain ⟨outstanding, made⟩ := writes x active (gFirstWrite.trans (firstWrite.trans notIssued)) (gSlot.trans (slot.trans held))
      exact ⟨outstanding, issued (made liveHere)⟩
    · rw [waits ?_, gFirstWrite, firstWrite]
      rw [gFirstWrite, firstWrite]
      exact other.imp_left fun claiming active => ChannelState.noConfusion (claiming.symm.trans active)
  · intro last full cause left
    let x : ViewFrame := { taken with holeRows := v.holeRows + taken.groupHoles }
    let y : State := z.put k state x
    have overflowed : z.takesRow s.timebase s.tracker.nextRow (some payload) k = y.abandons cause s.timebase k := by
      rw [takesRow_overflow here producesHere inWindow payload last full, stateHere]
    have put : y.channel k = { s.channel k with state := state, frame := some x } := by
      rw [State.channel_put_same, standing]
    have frameThere : (y.channel k).frame = some x := by rw [put]
    have fresh : x.abandoned = none := abandoned.trans produces.2.1
    have there {a : ChannelState} (now : state = a) : (y.channel k).state = a := by rw [put]; exact now
    rw [overflowed] at outcome issued
    refine ⟨fun early => ?_, fun q active notIssued held => issued ?_, fun active outstanding => ?_, fun active exchanged => ?_⟩
    · have early' : (y.channel k).state = .claiming ∨ (y.channel k).state = .active ∧ x.firstWrite = .notIssued := by
        rcases produces.1 with claiming | active
        · exact .inl (there claiming)
        · refine .inr ⟨there active, firstWrite.trans (early.resolve_left fun claiming => ?_)⟩
          exact ChannelState.noConfusion (claiming.symm.trans active)
      rw [outcome, abandons_returning frameThere fresh cause s.timebase early', put]
    · exact abandons_givesBack frameThere fresh cause s.timebase liveHere (there active) (firstWrite.trans notIssued) (slot.trans held)
    · rw [outcome, abandons_outstanding frameThere fresh cause s.timebase (there active) (firstWrite.trans outstanding), put]
    · rw [outcome, abandons_exchanged frameThere fresh cause s.timebase (there active) (firstWrite.trans exchanged), put, ← staging]

end Sys2Proof
end

section
/-! A FRAME_END in frame (05 R90; 07 R122, R124). -/

namespace Sys2Proof.Machine

variable {s : State} {k : ViewId} {v : ViewFrame}

/-- What a FRAME_END makes of the tracker in frame. -/
def Tracker.framed (x : Tracker) (number : Half) : Tracker :=
  { x with
    state := .idle
    deadline := none
    nextRow := x.height.toNat
    framesEnded := x.framesEnded + 1
    orderErrors := x.orderErrors + (if number = x.frameNumber then 0 else 1) }

/-- The rows still open resolved as missing, with no step of the memory path between them, and the tracker moved. -/
def State.rowsClosed (s : State) (number : Half) : State :=
  (s.metadataClosed.resolvesMissing [] s.tracker.nextRow (s.tracker.height.toNat - s.tracker.nextRow)).setTracker
    (s.tracker.framed number)

theorem takeFrameEnd_rowsClosed (number : Half) (inFrame : s.tracker.state ≠ .idle) :
    takeFrameEnd [] number s = (s.rowsClosed number).frameEnds := takeFrameEnd_inFrame s [] number inFrame

theorem rowsClosed_noticed (number : Half) : (s.setTracker (s.tracker.framed number)).Noticed (s.rowsClosed number) :=
  (s.metadataClosed_noticed.trans (State.resolvesMissing_noticed _ _ _)).setTracker _

/-- The last row of a frame in BODY, resolved as missing: a channel takes its notice in a state that the notices to others have left. -/
theorem rowsClosed_last (number : Half) (body : s.tracker.state = .body) (last : s.tracker.nextRow + 1 = s.tracker.height.toNat)
    (k : ViewId) :
    ∃ z : State, z.channel k = s.channel k
      ∧ (s.rowsClosed number).channel k = (z.takesRow s.timebase s.tracker.nextRow none k).channel k := by
  have closed : s.metadataClosed = s := if_neg (by rw [body]; decide)
  have one : s.tracker.height.toNat - s.tracker.nextRow = 1 := by omega
  obtain ⟨z, -, same, -, channel⟩ := resolves_channel s s.tracker.nextRow none k
  refine ⟨z, same, ?_⟩
  rw [State.rowsClosed, State.channel_setTracker, closed, one]
  exact channel

/-! ### A missing row, as a view frame in production takes it -/

section Missing

variable {time : DWord} {row : Nat} {place : RowPlace} (frame : (s.channel k).frame = some v) (produces : (s.channel k).produces v)
  (inWindow : placeRow v.period v.descriptor row = some place)

include frame produces inWindow

theorem takesRow_rowLoss (weighs : place.weight ≠ 0) (policy : v.descriptor.policy = 1) :
    ∃ w, ((s.takesRow time row none k).channel k).frame = some w ∧ w.missingRows = v.missingRows + 1
      ∧ w.abandoned = some .rowLoss ∧ w.endTime = time ∧ w.group = v.group ∧ w.accumulator = [] := by
  rw [takesRow_lost frame produces inWindow weighs policy]
  let u : State := s.put k (s.channel k).state { v with missingRows := v.missingRows + 1 }
  have standing := s.channel_put_same k (s.channel k).state { v with missingRows := v.missingRows + 1 }
  obtain ⟨w, here, left⟩ := abandons_opened (s := u) (k := k) (v := { v with missingRows := v.missingRows + 1 }) (by rw [standing])
    produces.2.1 .rowLoss time (by rw [standing]; exact produces.1)
  refine ⟨w, here, ?_⟩
  rw [left]
  exact ⟨rfl, rfl, rfl, rfl, rfl⟩

theorem takesRow_counted (weighs : place.weight ≠ 0) (policy : v.descriptor.policy ≠ 1) (within : place.last = false) :
    (s.takesRow time row none k).channel k = { s.channel k with frame := some { v with missingRows := v.missingRows + 1 } } := by
  rw [takesRow_within frame produces inWindow (fun lost => policy lost.2.2) within, rowTaken_missing v place weighs,
    State.channel_put_same]

theorem takesRow_weightless (weightless : place.weight = 0) (within : place.last = false) :
    (s.takesRow time row none k).channel k = s.channel k := by
  rw [takesRow_within frame produces inWindow (fun lost => lost.1 weightless) within, rowTaken_weightless v place none weightless,
    State.channel_put_same, ← frame]

end Missing

end Sys2Proof.Machine

namespace Sys2Proof
open Sys2Proof.Machine

/-- Settles O28: the rows still open resolved, then the end of the frame. -/
theorem frameEndInFrame : Obligations.FrameEndInFrame := by
  intro s runs between h payload complete kind inFrame ended
  let u : State := s.packetTaken runs h
  let w : State := u.rowsClosed (headerNumber h)
  have run (between : List NoticeStep) : exec (.packetComplete ⟨runs, between⟩) s = .next (takeFrameEnd between (headerNumber h) u) := by
    rw [exec_packetComplete complete, passPacket_frameEnd _ _ kind]
  have told : (u.setTracker (u.tracker.framed (headerNumber h))).Noticed w := rowsClosed_noticed _
  have sameRun : w.run = s.run := told.withdraws.same.run
  have samePlan : w.plan = s.plan := told.withdraws.same.plan
  have taken : takeFrameEnd [] (headerNumber h) u = w.frameEnds := takeFrameEnd_rowsClosed (s := u) (headerNumber h) inFrame
  refine ⟨?_, w.frameEnds, taken ▸ run [], ?_, frameEnds_waitingFor, fun quiet => ?_, fun busy => ?_, fun k notClaiming notActive => ?_,
    fun k v place body last frame produces inWindow => ?_, ?_, ?_, ?_⟩
  · rw [run, takeFrameEnd_inFrame u between _ inFrame]
    rfl
  · rw [frameEnds_tracker, told.withdraws.same.tracker]
    rfl
  · have quiet' : w.run.state = .running ∧ w.plan.fetch = .quiet := by rw [sameRun, samePlan]; exact quiet
    rw [frameEnds_fetch quiet', samePlan, sameRun]
    exact ⟨rfl, _, List.mem_append_right _ List.mem_cons_self, rfl, rfl⟩
  · rw [frameEnds_noFetch (by rw [sameRun, samePlan]; exact busy)]
    exact samePlan
  · rw [frameEnds_channel]
    exact told.kept k (not_or.mpr ⟨notClaiming, notActive⟩)
  · obtain ⟨z, same, channel⟩ := rowsClosed_last (s := u) (headerNumber h) body last k
    have standing : z.channel k = s.channel k := same
    have here : (z.channel k).frame = some v := by rw [standing]; exact frame
    have producesHere : (z.channel k).produces v := by rw [standing]; exact produces
    have outcome : w.frameEnds.channel k = (z.takesRow s.timebase s.tracker.nextRow none k).channel k :=
      (frameEnds_channel k).trans channel
    rw [outcome]
    refine ⟨fun weighs policy => takesRow_rowLoss here producesHere inWindow weighs policy, fun weighs policy within => ?_,
      fun weightless within => ?_⟩
    · rw [takesRow_counted here producesHere inWindow weighs policy within, standing]
    · rw [takesRow_weightless here producesHere inWindow weightless within, standing]
  · exact frameEnds_entries.trans told.withdraws.same.entries
  · exact frameEnds_pointer.trans told.withdraws.same.pointer
  · have first := told.withdraws.rest
    have last := frameEnds_rest (s := w)
    generalize w.frameEnds = t at last
    generalize w = y at first last
    exact (congrArg
        (fun x : State =>
          { x with
            receiver := s.receiver, tracker := s.tracker, plan := s.plan, channels := s.channels, queue := s.queue, port := s.port })
        last).trans
      (congrArg (fun x : State => { x with receiver := s.receiver, tracker := s.tracker, plan := s.plan }) first)

end Sys2Proof
end

section
/-! What a frame start leaves of the requests that wait, of the attention flags and of the scanners (05 R81 to R85; 06 R99 to R101). -/

namespace Sys2Proof.Machine

/-! ### Requests that wait -/

/-- No metadata copy is asked for, and no other request is withdrawn. -/
structure State.Asks (s t : State) : Prop where
  waits : ∀ r, (∀ k, r ≠ .metadataCopy k) → s.waitingFor r = true → t.waitingFor r = true
  copies : ∀ k, s.waitingFor (.metadataCopy k) = false → t.waitingFor (.metadataCopy k) = false

namespace State.Asks

theorem of_requests {s t : State} (same : t.queue.requests = s.queue.requests) : s.Asks t :=
  ⟨fun r _ waits => by rw [State.waitingFor, same]; exact waits, fun k withdrawn => by rw [State.waitingFor, same]; exact withdrawn⟩

theorem refl (s : State) : s.Asks s := of_requests rfl

theorem trans {s t u : State} (h : s.Asks t) (g : t.Asks u) : s.Asks u :=
  ⟨fun r other waits => g.waits r other (h.waits r other waits), fun k withdrawn => g.copies k (h.copies k withdrawn)⟩

variable (s : State)

theorem setTracker (x : Tracker) : s.Asks (s.setTracker x) := of_requests rfl

/-- A request other than a metadata copy joins the order. -/
theorem joined {r : Request} (other : ∀ k, r ≠ .metadataCopy k) : s.Asks { s with queue := s.joined r } := by
  unfold State.joined
  split
  · exact refl s
  · refine ⟨fun q _ waits => ?_, fun k withdrawn => ?_⟩
    · rw [State.waitingFor, List.any_append, Bool.or_eq_true]
      exact .inl waits
    · rw [State.waitingFor, List.any_append, Bool.or_eq_false_iff]
      refine ⟨withdrawn, ?_⟩
      cases r with
      | metadataCopy j => exact absurd rfl (other j)
      | frameRecord | viewTally | linkTally | adoptionWord => rfl

theorem ask {r : Request} (other : ∀ k, r ≠ .metadataCopy k) : s.Asks (s.ask r) := by
  rw [State.ask_eq]
  exact joined s other

theorem withdraw (k : ViewId) : s.Asks (s.withdraw (.metadataCopy k)) := by
  refine ⟨fun r other waits => ?_, fun j withdrawn => ?_⟩
  · obtain ⟨q, inOrder, same⟩ := List.any_eq_true.mp waits
    refine List.any_eq_true.mpr ⟨q, List.mem_filter.mpr ⟨inOrder, ?_⟩, same⟩
    cases q with
    | metadataCopy j =>
      cases r with
      | metadataCopy i => exact absurd rfl (other i)
      | frameRecord | viewTally | linkTally | adoptionWord => exact Bool.noConfusion same
    | frameRecord | viewTally | linkTally | adoptionWord => rfl
  · exact (Withdraws.withdraw s _).not_waitingFor withdrawn

end State.Asks

/-! ### Frame start notices -/

/-- What the notices of a frame start leave: besides channels, only FRAME_SKIPPED is raised, only claim requests join at the scanners,
no metadata copy is asked for and no other request is withdrawn. -/
structure State.Tells (s t : State) : Prop where
  same : s.SameBlocks t
  asks : s.Asks t
  attention : t.attention = s.attention ∨ t.attention = { s.attention with flags := s.attention.flags ||| 0x0004 }
  scanners : ∀ p, (t.scanner p).state = (s.scanner p).state ∧ ∃ more, (t.scanner p).queue = (s.scanner p).queue ++ more

namespace State.Tells

theorem of_attention {s t : State} (same : s.SameBlocks t) (asks : s.Asks t) (attention : t.attention = s.attention)
    (scanners : t.scanners = s.scanners) : s.Tells t :=
  ⟨same, asks, .inl attention, fun p => by rw [State.scanner_of_scanners scanners]; exact ⟨rfl, [], (List.append_nil _).symm⟩⟩

theorem refl (s : State) : s.Tells s := of_attention (.refl s) (.refl s) rfl rfl

theorem trans {s t u : State} (h : s.Tells t) (g : t.Tells u) : s.Tells u where
  same := h.same.trans g.same
  asks := h.asks.trans g.asks
  attention := by
    rcases h.attention with same | raised
    · rw [← same]
      exact g.attention
    · rcases g.attention with same' | raised'
      · exact .inr (same'.trans raised)
      · refine .inr (raised'.trans ?_)
        rw [raised, BitVec.or_assoc, BitVec.or_self]
  scanners p := by
    obtain ⟨state, a, first⟩ := h.scanners p
    obtain ⟨state', b, second⟩ := g.scanners p
    exact ⟨state'.trans state, a ++ b, by rw [second, first, List.append_assoc]⟩

theorem flagged {s t : State} (h : s.Tells t) {c : AttentionCause} (raised : s.flagged c = true) : t.flagged c = true := by
  rw [State.flagged_iff] at raised ⊢
  rcases h.attention with same | more
  · rw [same]
    exact raised
  · rw [more, BitVec.getLsbD_or, raised, Bool.true_or]

/-- A cause other than FRAME_SKIPPED is not raised. -/
theorem flagged_eq {s t : State} (h : s.Tells t) {c : AttentionCause} (other : (0x0004 : BitVec 14).getLsbD c.bit = false) :
    t.flagged c = s.flagged c := by
  rw [Bool.eq_iff_iff, State.flagged_iff, State.flagged_iff]
  rcases h.attention with same | more
  · rw [same]
  · rw [more, BitVec.getLsbD_or, other, Bool.or_false]

variable (s : State)

theorem setChannel (k : ViewId) (c : Channel) : s.Tells (s.setChannel k c) :=
  of_attention (s.setChannel_same k c) (.of_requests rfl) rfl rfl

theorem ask {r : Request} (other : ∀ k, r ≠ .metadataCopy k) : s.Tells (s.ask r) :=
  of_attention (s.ask_same r) (.ask s other) (s.ask_attention r) (s.ask_scanners r)

theorem withdraw (k : ViewId) : s.Tells (s.withdraw (.metadataCopy k)) := of_attention (s.withdraw_same _) (.withdraw s k) rfl rfl

theorem exchangeSlot (role : PortRole) (x : Slot) (n : SlotState) : s.Tells (s.exchangeSlot role x n) :=
  of_attention (s.exchangeSlot_same role x n) (.of_requests (by rw [State.exchangeSlot, State.issue_queue])) (s.issue_attention _ _)
    (s.issue_scanners _ _)

theorem withFrame {s : State} {k : ViewId} {f : ViewFrame → State} (h : ∀ v, s.Tells (f v)) : s.Tells (s.withFrame k f) :=
  s.withFrame_induct s.Tells (refl s) h

theorem returnSlot (k : ViewId) (v : ViewFrame) : s.Tells (returnSlot k v s) := by
  unfold Machine.returnSlot
  dsimp only
  split
  · exact (setChannel s _ _).trans (exchangeSlot _ _ _ _)
  · exact setChannel s _ _

theorem abandonFrame (k : ViewId) (c : OutcomeCause) (time : DWord) : s.Tells (abandonFrame k c time s) := by
  refine withFrame fun v => ?_
  have flushed : s.Tells ((s.moveChannel k .flushing (v.mark c time).withdrawn).withdraw (.metadataCopy k)) :=
    (setChannel s _ _).trans (withdraw _ _)
  split
  · exact refl s
  · split
    · exact setChannel s _ _
    · exact returnSlot s _ _
    · exact setChannel s _ _
    · exact flushed
    · exact flushed
    all_goals exact refl s

theorem claimFailed (x : OutcomeCause) (k : ViewId) : s.Tells (claimFailed x k s) where
  same := claimFailed_same s x k
  asks := by
    have joined : s.Asks { s with queue := s.joined (.viewTally k) } := .joined s fun _ => nofun
    rcases claimFailed_cases s x k with ⟨-, run⟩ | ⟨c, -, run⟩ | ⟨c, -, run⟩ <;> rw [run]
    · exact .refl s
    · exact joined.trans (.of_requests rfl)
    · exact joined.trans (.of_requests rfl)
  attention := (claimFailed_failsClaims s x k).flags
  scanners p := by
    rw [State.scanner_of_scanners (claimFailed_scanners s x k)]
    exact ⟨rfl, [], (List.append_nil _).symm⟩

theorem queueClaim (p : PoolId) (r : ClaimRequest) : s.Tells (queueClaim p r s) := by
  unfold Machine.queueClaim
  split
  · refine ⟨s.setScanner_same _ _, .of_requests rfl, .inl rfl, fun q => ?_⟩
    by_cases same : q = p
    · subst same
      rw [State.scanner_setScanner_same]
      exact ⟨rfl, [r], rfl⟩
    · rw [State.scanner_setScanner_other _ same]
      exact ⟨rfl, [], (List.append_nil _).symm⟩
  · exact claimFailed s _ _

theorem openFrame (p : Plan) (d : Descriptor) (z : Sizes) (n : Half) (time : DWord) (b : BankId) (k : ViewId) :
    s.Tells (openFrame p d z n time b k s) := (setChannel s _ _).trans (queueClaim _ _ _)

theorem countSkip (n : Half) (c : OutcomeCause) (k : ViewId) : s.Tells (countSkip n c k s) := by
  unfold Machine.countSkip
  dsimp only
  split
  · exact (setChannel s _ _).trans (ask _ fun _ => nofun)
  · exact setChannel s _ _

theorem overtake (time : DWord) (k : ViewId) : s.Tells (overtake time k s) := by
  unfold Machine.overtake
  split
  · exact abandonFrame s _ _ _
  · exact refl s

theorem takeDisposition (p : Plan) (n : Half) (time : DWord) (b : BankId) (k : ViewId) (x : Disposition) :
    s.Tells (takeDisposition p n time b k x s) := by
  unfold Machine.takeDisposition
  split
  · exact refl s
  · exact countSkip s _ _ _
  · split
    · split
      · exact openFrame s _ _ _ _ _ _ _
      · exact refl s
    · exact countSkip s _ _ _

theorem cancelCopy (b : BankId) (k : ViewId) : s.Tells (cancelCopy b k s) := by
  refine withFrame fun v => ?_
  split
  · exact (setChannel s _ _).trans (withdraw _ _)
  · exact refl s

end State.Tells

variable (s : State)

/-- A frame start notice reaches a channel: what it makes of a view frame in progress, then the disposition of the view. -/
theorem frameStartNotice_adopted {p : Plan} (adopted : s.plan.adopted = some p) (gap : Bool) (k : ViewId) :
    frameStartNotice gap k s =
      takeDisposition p s.tracker.frameNumber s.tracker.startTime s.tracker.currentBank k
        (disposition s.run.state gap p s.tracker k) (overtake s.timebase k s) := by
  have same := overtake_same s s.timebase k
  rw [frameStartNotice]
  rw [same.plan, adopted, same.tracker, same.run]

theorem frameStartNotice_unadopted (none : s.plan.adopted = none) (gap : Bool) (k : ViewId) :
    frameStartNotice gap k s = overtake s.timebase k s := by
  have same := overtake_same s s.timebase k
  rw [frameStartNotice]
  rw [same.plan, none]

theorem frameStartNotice_tells (gap : Bool) (k : ViewId) : s.Tells (frameStartNotice gap k s) := by
  cases adopted : s.plan.adopted with
  | none =>
    rw [frameStartNotice_unadopted s adopted]
    exact .overtake s _ _
  | some p =>
    rw [frameStartNotice_adopted s adopted]
    exact (State.Tells.overtake s _ _).trans (.takeDisposition _ _ _ _ _ _ _)

/-- A notice to every channel makes of channel k what it makes of it alone, in a state that the notices to others have left. -/
theorem eachView_tells {f : ViewId → State → State} (tells : ∀ k (t : State), t.Tells (f k t))
    (others : ∀ (i j : ViewId) (t : State), j ≠ i → (f i t).channel j = t.channel j) (k : ViewId) :
    ∃ t, s.Tells t ∧ t.channel k = s.channel k ∧ (f k t).Tells (s.eachView f)
      ∧ (s.eachView f).channel k = (f k t).channel k :=
  s.eachView_channel f State.Tells State.Tells.refl (fun _ _ _ => State.Tells.trans) tells others k

theorem frameStartNotices_channel (gap : Bool) (k : ViewId) :
    ∃ t, s.Tells t ∧ t.channel k = s.channel k ∧ (frameStartNotice gap k t).Tells (s.eachView (frameStartNotice gap))
      ∧ (s.eachView (frameStartNotice gap)).channel k = (frameStartNotice gap k t).channel k :=
  eachView_tells s (fun k t => frameStartNotice_tells t gap k) (fun _ _ t other => frameStartNotice_other t other gap) k

theorem frameStartNotices_tells (gap : Bool) : s.Tells (s.eachView (frameStartNotice gap)) := by
  obtain ⟨t, before, -, after, -⟩ := frameStartNotices_channel s gap 0
  exact (before.trans (frameStartNotice_tells t gap 0)).trans after

theorem cancelCopies_channel (b : BankId) (k : ViewId) :
    ∃ t, s.Tells t ∧ t.channel k = s.channel k ∧ (cancelCopy b k t).Tells (s.eachView (cancelCopy b))
      ∧ (s.eachView (cancelCopy b)).channel k = (cancelCopy b k t).channel k :=
  eachView_tells s (fun k t => State.Tells.cancelCopy t b k) (fun _ _ t other => cancelCopy_other t other b) k

end Sys2Proof.Machine
end

section
/-! The stages of a frame start: truncation of an open frame, the new frame, the plan, the notices (05 R81 to R85; 03 R55, R56). -/

namespace Sys2Proof.Machine

/-! ### A truncation makes no channel IDLE -/

/-- Every channel that is not IDLE stays so. -/
def State.KeepsBusy (s t : State) : Prop := ∀ k : ViewId, (s.channel k).state ≠ .idle → (t.channel k).state ≠ .idle

namespace State.KeepsBusy

theorem of_channels {s t : State} (same : ∀ k, t.channel k = s.channel k) : s.KeepsBusy t := fun k busy => by
  rw [same]
  exact busy

theorem trans {s t u : State} (h : s.KeepsBusy t) (g : t.KeepsBusy u) : s.KeepsBusy u := fun k busy => g k (h k busy)

variable (s : State)

theorem refl : s.KeepsBusy s := fun _ => id

theorem moveChannel (k : ViewId) {c : ChannelState} (busy : c ≠ .idle) (v : ViewFrame) : s.KeepsBusy (s.moveChannel k c v) := by
  intro j here
  by_cases same : j = k
  · subst same
    rw [State.channel_moveChannel_same]
    exact busy
  · rw [State.channel_moveChannel_other _ same]
    exact here

theorem setFrame (k : ViewId) (v : ViewFrame) : s.KeepsBusy (s.setFrame k v) := by
  intro j here
  by_cases same : j = k
  · subst same
    rw [State.channel_setFrame_same]
    exact here
  · rw [State.channel_setFrame_other _ same]
    exact here

theorem exchangeSlot (role : PortRole) (x : Slot) (n : SlotState) : s.KeepsBusy (s.exchangeSlot role x n) :=
  of_channels (s.channel_exchangeSlot role x n)

theorem withFrame {s : State} {k : ViewId} {f : ViewFrame → State} (h : ∀ v, s.KeepsBusy (f v)) : s.KeepsBusy (s.withFrame k f) :=
  s.withFrame_induct s.KeepsBusy (refl s) h

theorem advanceActive (k : ViewId) : s.KeepsBusy (advanceActive k s) := by
  have issued : s.KeepsBusy (issueFirstWrite k s) := by
    refine withFrame fun v => ?_
    split
    · exact refl s
    · split
      · exact (setFrame s _ _).trans (exchangeSlot _ _ _ _)
      · exact refl s
  refine issued.trans (withFrame fun v => ?_)
  split
  · exact moveChannel _ _ (by decide) _
  · exact refl _

theorem returnSlot (k : ViewId) (v : ViewFrame) : s.KeepsBusy (returnSlot k v s) := by
  unfold Machine.returnSlot
  dsimp only
  split
  · exact (moveChannel s _ (by decide) _).trans (exchangeSlot _ _ _ _)
  · exact moveChannel s _ (by decide) _

theorem abandonFrame (k : ViewId) (c : OutcomeCause) (time : DWord) : s.KeepsBusy (abandonFrame k c time s) := by
  refine withFrame fun v => ?_
  have flushed : s.KeepsBusy ((s.moveChannel k .flushing (v.mark c time).withdrawn).withdraw (.metadataCopy k)) :=
    (moveChannel s k (by decide) _).trans (of_channels (State.channel_withdraw _ _))
  split
  · exact refl s
  · split
    · exact moveChannel s _ (by decide) _
    · exact returnSlot s _ _
    · exact moveChannel s _ (by decide) _
    · exact flushed
    · exact flushed
    all_goals exact refl s

theorem eachView {f : ViewId → State → State} (h : ∀ k (t : State), t.KeepsBusy (f k t)) : s.KeepsBusy (s.eachView f) := by
  suffices ∀ (l : List ViewId) (t : State), t.KeepsBusy (l.foldl (fun s k => f k s) t) from this _ s
  intro l
  induction l with
  | nil => exact refl
  | cons k l ih => exact fun t => (h k t).trans (ih _)

theorem closeMetadata : s.KeepsBusy (closeMetadata s) := by
  unfold Machine.closeMetadata
  split
  · refine eachView s fun k t => withFrame fun v => ?_
    split
    · exact (setFrame t _ _).trans (advanceActive _ _)
    · exact refl t
  · exact refl s

theorem truncates (cause : OutcomeCause) : s.KeepsBusy (s.truncates cause) := by
  by_cases idle : s.tracker.state = .idle
  · rw [truncates_idle cause idle]
    exact refl s
  · rw [truncates_inFrame cause idle]
    refine trans ?_ (of_channels fun k => frameEnds_channel k)
    have closed : s.KeepsBusy (s.metadataClosed.setTracker (s.tracker.truncated cause)) := by
      rw [← closeMetadata_eq]
      exact (closeMetadata s).trans (of_channels (State.channel_setTracker _ _))
    refine closed.trans (eachView _ fun k t => withFrame fun v => ?_)
    split
    · exact abandonFrame t _ _ _
    · exact refl t

end State.KeepsBusy

variable {s : State} {k : ViewId} {v : ViewFrame}

theorem truncates_state_idle (cause : OutcomeCause) (k : ViewId) :
    ((s.truncates cause).channel k).state = .idle ↔ (s.channel k).state = .idle := by
  refine ⟨fun after => ?_, fun before => ?_⟩
  · by_contra busy
    exact State.KeepsBusy.truncates s cause k busy after
  · rw [truncates_kept cause (by simp [Channel.opened, before])]
    exact before

theorem truncates_keeps (cause : OutcomeCause) :
    (s.truncates cause).attention = s.attention ∧ (s.truncates cause).allocations = s.allocations
      ∧ (s.truncates cause).scanners = s.scanners := by
  have rest := truncates_rest (s := s) cause
  generalize s.truncates cause = t at rest ⊢
  rw [← rest]
  exact ⟨rfl, rfl, rfl⟩

/-- A truncation leaves the plans and the report. -/
theorem truncates_plan (cause : OutcomeCause) :
    (s.truncates cause).plan.adopted = s.plan.adopted ∧ (s.truncates cause).plan.candidate = s.plan.candidate
      ∧ (s.truncates cause).plan.report = s.plan.report := by
  by_cases idle : s.tracker.state = .idle
  · rw [truncates_idle cause idle]
    exact ⟨rfl, rfl, rfl⟩
  · have same : (s.truncatedViews cause).plan = s.plan := (truncatedViews_noticed cause).withdraws.same.plan
    rw [truncates_inFrame cause idle]
    generalize s.truncatedViews cause = t at same ⊢
    by_cases quiet : t.run.state = .running ∧ t.plan.fetch = .quiet
    · rw [frameEnds_fetch quiet, same]
      exact ⟨rfl, rfl, rfl⟩
    · rw [frameEnds_noFetch quiet, same]
      exact ⟨rfl, rfl, rfl⟩

/-! ### The new frame -/

/-- A copy due or asked for from the bank that is cleared is cancelled (09 R157). -/
def ViewFrame.afterClearing (v : ViewFrame) (b : BankId) : ViewFrame :=
  if v.bank = b ∧ (v.copy = .due ∨ v.copy = .waiting) then { v with copy := .notDue, metaLost := true } else v

theorem cancelCopy_none (b : BankId) (frame : (s.channel k).frame = none) : cancelCopy b k s = s := s.withFrame_none frame _

theorem cancelCopy_channel (b : BankId) (frame : (s.channel k).frame = some v) :
    (cancelCopy b k s).channel k = { s.channel k with frame := some (v.afterClearing b) } := by
  rw [cancelCopy, s.withFrame_some frame, ViewFrame.afterClearing]
  split
  · rw [State.channel_withdraw, State.channel_setFrame_same]
  · rw [← frame]

theorem cancelCopy_cancels (b : BankId) (frame : (s.channel k).frame = some v)
    (cancelled : v.bank = b ∧ (v.copy = .due ∨ v.copy = .waiting)) :
    (cancelCopy b k s).waitingFor (.metadataCopy k) = false := by
  rw [cancelCopy, s.withFrame_some frame, if_pos cancelled, State.withdraw_eq]
  exact waitingFor_metadataCopy_filter _ s.queue k

/-- The clearing of a bank touches a channel's view frame alone. -/
theorem cancelCopy_keeps (b : BankId) (k : ViewId) :
    ((cancelCopy b k s).channel k).state = (s.channel k).state ∧ ((cancelCopy b k s).channel k).tally = (s.channel k).tally := by
  cases frame : (s.channel k).frame with
  | none =>
    rw [cancelCopy_none b frame]
    exact ⟨rfl, rfl⟩
  | some v =>
    rw [cancelCopy_channel b frame]
    exact ⟨rfl, rfl⟩

section NewFrame

variable (number width height : Half) (depth : Byte)

/-- A new frame begins after the truncation of an open one. -/
def State.begun (s : State) : State := beginFrame number width height depth (s.truncates .truncated)

/-- The bank that the new frame uses. -/
def Tracker.nextBank (x : Tracker) : BankId := if x.currentBank = 0 then 1 else 0

theorem truncates_bank : (s.truncates .truncated).tracker.currentBank = s.tracker.currentBank := by
  rw [truncates_tracker]
  split <;> rfl

/-- The clearing of the next bank, view by view. -/
theorem begun_eq : ∃ x, s.begun number width height depth =
    ((s.truncates .truncated).eachView (cancelCopy s.tracker.nextBank)).setTracker x := by
  have bank : otherBank (s.truncates .truncated).tracker.currentBank = s.tracker.nextBank := by
    rw [truncates_bank]
    rfl
  rw [← bank]
  exact ⟨_, rfl⟩

/-- Channel k after the clearing of the next bank, in a state that the clearing for others has left. -/
theorem begun_channel (k : ViewId) :
    ∃ t, t.channel k = (s.truncates .truncated).channel k
      ∧ (s.begun number width height depth).channel k = (cancelCopy s.tracker.nextBank k t).channel k
      ∧ (cancelCopy s.tracker.nextBank k t).Asks (s.begun number width height depth) := by
  obtain ⟨x, begun⟩ := begun_eq (s := s) number width height depth
  obtain ⟨t, -, same, after, channel⟩ := cancelCopies_channel (s.truncates .truncated) s.tracker.nextBank k
  refine ⟨t, same, ?_, ?_⟩
  · rw [begun, State.channel_setTracker, channel]
  · rw [begun]
    exact after.asks.trans (.setTracker _ _)

theorem begun_state (k : ViewId) :
    ((s.begun number width height depth).channel k).state = ((s.truncates .truncated).channel k).state
      ∧ ((s.begun number width height depth).channel k).tally = ((s.truncates .truncated).channel k).tally := by
  obtain ⟨t, same, channel, -⟩ := begun_channel (s := s) number width height depth k
  rw [channel, ← same]
  exact cancelCopy_keeps _ k

theorem begun_sameRun : s.SameRun (s.begun number width height depth) :=
  (truncates_sameRun .truncated).trans (beginFrame_sameRun _ number width height depth)

/-- What else the beginning of a frame leaves. -/
theorem begun_keeps :
    (s.begun number width height depth).attention = s.attention
      ∧ (s.begun number width height depth).allocations = s.allocations
      ∧ (s.begun number width height depth).scanners = s.scanners
      ∧ (s.begun number width height depth).plan = (s.truncates .truncated).plan
      ∧ (s.truncates .truncated).Asks (s.begun number width height depth) := by
  obtain ⟨x, begun⟩ := begun_eq (s := s) number width height depth
  have cleared : (s.truncates .truncated).Withdraws ((s.truncates .truncated).eachView (cancelCopy s.tracker.nextBank)) :=
    .eachView _ fun k t => .cancelCopy t _ k
  have asked : (s.truncates .truncated).Asks ((s.truncates .truncated).eachView (cancelCopy s.tracker.nextBank)) := by
    obtain ⟨t, before, -, after, -⟩ := cancelCopies_channel (s.truncates .truncated) s.tracker.nextBank 0
    exact (before.asks.trans (State.Tells.cancelCopy t _ 0).asks).trans after.asks
  obtain ⟨attention, allocations, scanners⟩ := truncates_keeps (s := s) .truncated
  rw [begun]
  refine ⟨?_, ?_, ?_, ?_, asked.trans (.setTracker _ _)⟩
  · rw [State.setTracker_attention, cleared.attention]
    exact attention
  · rw [State.setTracker_allocations, cleared.same.allocations]
    exact allocations
  · rw [State.setTracker_scanners, cleared.scanners]
    exact scanners
  · rw [State.setTracker_plan, cleared.same.plan]

theorem begun_candidate : (s.begun number width height depth).plan.candidate = s.plan.candidate
    ∧ (s.begun number width height depth).plan.adopted = s.plan.adopted
    ∧ (s.begun number width height depth).plan.report = s.plan.report := by
  obtain ⟨-, -, -, plan, -⟩ := begun_keeps (s := s) number width height depth
  obtain ⟨adopted, candidate, report⟩ := truncates_plan (s := s) .truncated
  rw [plan]
  exact ⟨candidate, adopted, report⟩

theorem begun_allIdle : (s.begun number width height depth).allIdle = true ↔ ∀ k, (s.channel k).state = .idle := by
  rw [State.allIdle, allViews_all_iff]
  refine forall_congr' fun k => ?_
  rw [decide_eq_true_eq, (begun_state number width height depth k).1, truncates_state_idle]

/-- An adoption gap is told by the state before the frame start. -/
theorem begun_adoptionGap : (s.begun number width height depth).adoptionGap = true ↔
    s.run.state = .running ∧ s.plan.candidate.isSome = true ∧ ∃ j : ViewId, (s.channel j).state ≠ .idle := by
  rw [State.adoptionGap, Bool.and_eq_true, Bool.and_eq_true, decide_eq_true_eq, Bool.not_eq_true', ← Bool.not_eq_true, begun_allIdle,
    (begun_sameRun number width height depth).run, (begun_candidate number width height depth).1, and_assoc, not_forall]

end NewFrame

/-! ### The plan's part -/

section PlanPart

variable (number : Half)

theorem planFrameStart_none (elsewhere : s.run.state ≠ .running ∨ s.plan.candidate = none) : planFrameStart number s = s := by
  rw [planFrameStart]
  split
  · rfl
  · next running =>
    rw [elsewhere.resolve_left running]

theorem planFrameStart_adopts {p : Plan} (running : s.run.state = .running) (candidate : s.plan.candidate = some p)
    (idle : s.allIdle = true) : planFrameStart number s = adoptPlan p (number.setWidth 32) s := by
  rw [planFrameStart, if_neg (not_not.mpr running), candidate]
  exact if_pos idle

theorem planFrameStart_defers {p : Plan} (running : s.run.state = .running) (candidate : s.plan.candidate = some p)
    (busy : ¬s.allIdle = true) :
    planFrameStart number s =
      { s with
        plan := { s.plan with report := { s.plan.report with deferrals := s.plan.report.deferrals + 1 } }
        queue := s.joined .adoptionWord
        attention := { s.attention with flags := s.attention.flags ||| 0x0100 } } := by
  rw [planFrameStart, if_neg (not_not.mpr running), candidate]
  dsimp only
  rw [if_neg busy, State.ask_eq]
  rfl

/-- The plan's part of a frame start touches plan unit, allocations, requests and attention. -/
theorem planFrameStart_cases :
    planFrameStart number s = s
      ∨ (∃ p, planFrameStart number s = adoptPlan p (number.setWidth 32) s)
      ∨ planFrameStart number s =
        { s with
          plan := { s.plan with report := { s.plan.report with deferrals := s.plan.report.deferrals + 1 } }
          queue := s.joined .adoptionWord
          attention := { s.attention with flags := s.attention.flags ||| 0x0100 } } := by
  by_cases running : s.run.state = .running
  · cases candidate : s.plan.candidate with
    | none => exact .inl (planFrameStart_none number (.inr candidate))
    | some p =>
      by_cases idle : s.allIdle = true
      · exact .inr (.inl ⟨p, planFrameStart_adopts number running candidate idle⟩)
      · exact .inr (.inr (planFrameStart_defers number running candidate idle))
  · exact .inl (planFrameStart_none number (.inl running))

theorem planFrameStart_keeps :
    (∀ k, (planFrameStart number s).channel k = s.channel k) ∧ (planFrameStart number s).scanners = s.scanners
      ∧ (planFrameStart number s).run = s.run ∧ (planFrameStart number s).timebase = s.timebase
      ∧ s.Asks (planFrameStart number s)
      ∧ (planFrameStart number s).flagged .formatMismatch = s.flagged .formatMismatch := by
  have joined : s.Asks { s with queue := s.joined .adoptionWord } := .joined s fun _ => nofun
  have other {mask : BitVec 14} (not : mask.getLsbD 11 = false) (t : State) (flags : t.attention.flags = s.attention.flags ||| mask) :
      t.flagged .formatMismatch = s.flagged .formatMismatch := by
    rw [Bool.eq_iff_iff, State.flagged_iff, State.flagged_iff, flags, BitVec.getLsbD_or]
    simp only [AttentionCause.bit, not, Bool.or_false]
  rcases planFrameStart_cases (s := s) number with run | ⟨p, run⟩ | run
  · rw [run]
    exact ⟨fun _ => rfl, rfl, rfl, rfl, .refl s, rfl⟩
  · rw [run, adoptPlan_eq]
    exact ⟨fun _ => rfl, rfl, rfl, rfl, joined.trans (.of_requests rfl), other (mask := 0x0040) (by decide) _ rfl⟩
  · rw [run]
    exact ⟨fun _ => rfl, rfl, rfl, rfl, joined.trans (.of_requests rfl), other (mask := 0x0100) (by decide) _ rfl⟩

end PlanPart

/-! ### The notices -/

section Notices

variable (gap : Bool)

/-- The gap armed, a mismatch raised, and every channel told. -/
def State.startTold (s : State) (gap : Bool) : State := (raiseMismatch gap (armGap s)).eachView (frameStartNotice gap)

theorem takeFrameStart_eq (number width height : Half) (depth : Byte) :
    takeFrameStart number width height depth s =
      (planFrameStart number (s.begun number width height depth)).startTold (s.begun number width height depth).adoptionGap := by
  rw [takeFrameStart, truncateFrame_eq]
  rfl

theorem raiseMismatch_cases : raiseMismatch gap s = s ∨ raiseMismatch gap s = s.raise .formatMismatch := by
  unfold raiseMismatch
  split
  · split
    · exact .inr rfl
    · exact .inl rfl
  · exact .inl rfl

/-- The state in which the first notice is given. -/
theorem raiseMismatch_armGap_keeps :
    (∀ k, (raiseMismatch gap (armGap s)).channel k = s.channel k) ∧ (raiseMismatch gap (armGap s)).scanners = s.scanners
      ∧ (raiseMismatch gap (armGap s)).queue = s.queue := by
  rcases raiseMismatch_cases (s := armGap s) gap with run | run <;> rw [run] <;> exact ⟨fun _ => rfl, rfl, rfl⟩

theorem startTold_same : (armGap s).SameBlocks (s.startTold gap) :=
  (raiseMismatch_same (armGap s) gap).trans (frameStartNotices_tells _ gap).same

theorem startTold_asks : s.Asks (s.startTold gap) :=
  (State.Asks.of_requests (congrArg WriteQueue.requests (raiseMismatch_armGap_keeps gap).2.2)).trans (frameStartNotices_tells _ gap).asks

theorem startTold_flagged {c : AttentionCause} (raised : s.flagged c = true) : (s.startTold gap).flagged c = true := by
  refine (frameStartNotices_tells _ gap).flagged ?_
  rcases raiseMismatch_cases (s := armGap s) gap with run | run <;> rw [run]
  · exact raised
  · rw [State.flagged_iff] at raised ⊢
    rw [State.raise_attention_flags_new, BitVec.getLsbD_or]
    exact Bool.or_eq_true_iff.mpr (.inl raised)

theorem startTold_plan : (s.startTold gap).plan = s.plan := (startTold_same gap).plan

theorem startTold_gapLimit : (s.startTold gap).tracker.gapLimit = (s.startTold gap).plan.gapLimit := by
  rw [(startTold_same gap).tracker, startTold_plan]
  rfl

end Notices

section WholeStart

variable (number width height : Half) (depth : Byte)

theorem takeFrameStart_gapLimit :
    (takeFrameStart number width height depth s).tracker.gapLimit = (takeFrameStart number width height depth s).plan.gapLimit := by
  rw [takeFrameStart_eq]
  exact startTold_gapLimit _

/-- What waits once an open frame is truncated waits still. -/
theorem takeFrameStart_asks : (s.truncates .truncated).Asks (takeFrameStart number width height depth s) := by
  obtain ⟨-, -, -, -, begun⟩ := begun_keeps (s := s) number width height depth
  obtain ⟨-, -, -, -, planned, -⟩ := planFrameStart_keeps (s := s.begun number width height depth) number
  rw [takeFrameStart_eq]
  exact (begun.trans planned).trans (startTold_asks _)

end WholeStart

end Sys2Proof.Machine

namespace Sys2Proof
open Sys2Proof.Machine

/-- Settles O29: the tracker's values, the link tally of a truncated frame, and what every frame start leaves. -/
theorem frameStartBeginsFrame : Obligations.FrameStartBeginsFrame := by
  intro s runs between h payload complete kind next
  let u : State := s.packetTaken runs h
  let width : Half := BitVec.ofNat 16 (leValue (payload.take 2))
  let height : Half := BitVec.ofNat 16 (leValue ((payload.drop 2).take 2))
  have run : exec (.packetComplete ⟨runs, between⟩) s =
      .next (takeFrameStart (headerNumber h) width height (payload.getD 4 0) u) := by
    rw [exec_packetComplete complete, passPacket_frameStart _ _ kind]
  have same := takeFrameStart_sameRun u (headerNumber h) width height (payload.getD 4 0)
  obtain ⟨limit, deadline, armed, tracker⟩ := takeFrameStart_tracker u (headerNumber h) width height (payload.getD 4 0)
  have limits := takeFrameStart_gapLimit (s := u) (headerNumber h) width height (payload.getD 4 0)
  have told := takeFrameStart_asks (s := u) (headerNumber h) width height (payload.getD 4 0)
  generalize takeFrameStart (headerNumber h) width height (payload.getD 4 0) u = t at run same tracker limits told
  rw [tracker] at limits
  refine ⟨t, limit, run, limits, ?_, fun inFrame => ?_, same.receiver, same.entries, same.pointer, ?_⟩
  · rw [tracker, armed]
    rfl
  · exact told.waits _ (fun _ => nofun) (truncates_waitingFor .truncated inFrame)
  · have run' : t.run = s.run := same.run
    have timebase : t.timebase = s.timebase := same.timebase
    have pending : t.pending = s.pending := same.pending
    rw [run', timebase, pending]

end Sys2Proof
end

section
/-! A frame start, the plan: adoption, adoption gap, or neither (03 R55, R56; 09 R146). -/

namespace Sys2Proof.Machine

variable {s : State}

theorem flagged_of_or {t : State} {c : AttentionCause} {flags mask : BitVec 14} (raised : t.attention.flags = flags ||| mask)
    (here : mask.getLsbD c.bit = true) : t.flagged c = true := by
  rw [State.flagged_iff, raised, BitVec.getLsbD_or, here, Bool.or_true]

section PlanStages

variable (number width height : Half) (depth : Byte)

/-- The state once the plan unit has taken its part in a frame start. -/
def State.planned (s : State) : State := planFrameStart number (s.begun number width height depth)

theorem takeFrameStart_planned :
    takeFrameStart number width height depth s =
      (s.planned number width height depth).startTold (s.begun number width height depth).adoptionGap :=
  takeFrameStart_eq number width height depth

/-- What the plan unit decides stands at the end of a frame start. -/
theorem takeFrameStart_decides :
    (takeFrameStart number width height depth s).plan = (s.planned number width height depth).plan
      ∧ (takeFrameStart number width height depth s).allocations = (s.planned number width height depth).allocations
      ∧ (s.planned number width height depth).Asks (takeFrameStart number width height depth s)
      ∧ ∀ c, (s.planned number width height depth).flagged c = true →
        (takeFrameStart number width height depth s).flagged c = true := by
  rw [takeFrameStart_planned]
  generalize s.planned number width height depth = x
  exact ⟨startTold_plan _, (startTold_same _).allocations, startTold_asks _, fun _ => startTold_flagged _⟩

theorem planned_none (elsewhere : s.run.state ≠ .running ∨ s.plan.candidate = none) :
    s.planned number width height depth = s.begun number width height depth := by
  refine planFrameStart_none number ?_
  rw [(begun_sameRun number width height depth).run, (begun_candidate number width height depth).1]
  exact elsewhere

variable {p : Plan} (running : s.run.state = .running) (candidate : s.plan.candidate = some p)

include running candidate

theorem planned_adopts (idle : ∀ k, (s.channel k).state = .idle) :
    s.planned number width height depth = adoptPlan p (number.setWidth 32) (s.begun number width height depth) := by
  have state := (begun_sameRun (s := s) number width height depth).run
  have pending := (begun_candidate (s := s) number width height depth).1
  exact planFrameStart_adopts number (by rw [state]; exact running) (by rw [pending]; exact candidate)
    ((begun_allIdle number width height depth).mpr idle)

theorem planned_defers (busy : ∃ k, (s.channel k).state ≠ .idle) :
    s.planned number width height depth =
      { s.begun number width height depth with
        plan :=
          { (s.begun number width height depth).plan with
            report :=
              { (s.begun number width height depth).plan.report with
                deferrals := (s.begun number width height depth).plan.report.deferrals + 1 } }
        queue := (s.begun number width height depth).joined .adoptionWord
        attention :=
          { (s.begun number width height depth).attention with
            flags := (s.begun number width height depth).attention.flags ||| 0x0100 } } := by
  have state := (begun_sameRun (s := s) number width height depth).run
  have pending := (begun_candidate (s := s) number width height depth).1
  refine planFrameStart_defers number (by rw [state]; exact running) (by rw [pending]; exact candidate) ?_
  rw [begun_allIdle, not_forall]
  exact busy

end PlanStages

end Sys2Proof.Machine

namespace Sys2Proof
open Sys2Proof.Machine

/-- Settles O30: a plan adopted, a gap, or neither, by the state before the frame start. -/
theorem adoptionAtFrameStart : Obligations.AdoptionAtFrameStart := by
  intro s t runs between h payload complete kind run
  let u : State := s.packetTaken runs h
  let width : Half := BitVec.ofNat 16 (leValue (payload.take 2))
  let height : Half := BitVec.ofNat 16 (leValue ((payload.drop 2).take 2))
  rw [exec_packetComplete complete, passPacket_frameStart _ _ kind] at run
  obtain ⟨plan, allocations, asks, flagged⟩ := takeFrameStart_decides (s := u) (headerNumber h) width height (payload.getD 4 0)
  obtain ⟨pending, adopted, report⟩ := begun_candidate (s := u) (headerNumber h) width height (payload.getD 4 0)
  obtain ⟨-, standing, -, -, -⟩ := begun_keeps (s := u) (headerNumber h) width height (payload.getD 4 0)
  have ended : takeFrameStart (headerNumber h) width height (payload.getD 4 0) u = t := Host.Outcome.next.inj run
  rw [ended] at plan allocations asks flagged
  refine ⟨fun p running candidate idle => ?_, fun p running candidate busy => ?_, fun elsewhere => ?_⟩
  · rw [planned_adopts (s := u) _ _ _ _ running candidate idle, adoptPlan_eq] at plan allocations asks flagged
    generalize u.begun (headerNumber h) width height (payload.getD 4 0) = b at *
    rw [plan, allocations]
    refine ⟨rfl, rfl, p.allocations_laidOut, ?_, asks.waits _ (fun _ => nofun) (waitingFor_joined b _),
      flagged _ (flagged_of_or (flags := b.attention.flags) (mask := 0x0040) rfl (by decide))⟩
    rw [report]
    rfl
  · rw [planned_defers (s := u) _ _ _ _ running candidate busy] at plan allocations asks flagged
    generalize u.begun (headerNumber h) width height (payload.getD 4 0) = b at *
    rw [plan, allocations]
    refine ⟨adopted, pending.trans candidate, standing, ?_, asks.waits _ (fun _ => nofun) (waitingFor_joined b _),
      flagged _ (flagged_of_or (flags := b.attention.flags) (mask := 0x0100) rfl (by decide))⟩
    rw [report]
    rfl
  · rw [planned_none (s := u) _ _ _ _ elsewhere] at plan allocations
    rw [plan, allocations]
    exact ⟨adopted, pending, standing, report⟩

end Sys2Proof
end

section
/-! A frame start, channel by channel (05 R83 to R85; 06 R99 to R102; 09 R157). -/

namespace Sys2Proof.Machine

variable {s : State} {k : ViewId} {v : ViewFrame}

/-! ### Dispositions -/

section Dispositions

variable {gap : Bool} {p : Plan} {x : Tracker}

theorem Plan.selects_iff (p : Plan) (k : ViewId) (number : Half) :
    p.selects k number = true ↔ p.mask.getLsbD k.val = true ∧ number.toNat % p.views[k].every = p.views[k].phase := by
  rw [Plan.selects, Bool.and_eq_true, beq_iff_eq]
  rfl

theorem Plan.mismatch_iff (p : Plan) (x : Tracker) :
    p.mismatch x = true ↔ p.width ≠ x.width ∨ p.height ≠ x.height ∨ p.depth ≠ x.depth := by
  rw [Plan.mismatch, Bool.or_eq_true, Bool.or_eq_true, bne_iff_ne, bne_iff_ne, bne_iff_ne, or_assoc]

theorem disposition_notOffered {run : RunState} (none : run ≠ .running ∨ ¬p.selects k x.frameNumber = true) :
    disposition run gap p x k = .notOffered := by
  unfold disposition
  split
  · rfl
  · next running => exact if_pos (Bool.eq_false_iff.mpr (none.resolve_left running))

variable (selected : p.selects k x.frameNumber = true)

include selected

theorem disposition_gap (inGap : gap = true) : disposition .running gap p x k = .skips .adopting := by
  simp [disposition, selected, inGap]

theorem disposition_mismatch (outside : gap = false) (mismatch : p.mismatch x = true) :
    disposition .running gap p x k = .skips .formatMismatch := by
  simp [disposition, selected, outside, mismatch]

theorem disposition_opens (outside : gap = false) (fits : p.mismatch x = false) : disposition .running gap p x k = .opens := by
  simp [disposition, selected, outside, fits]

end Dispositions

/-! ### Skips counted -/

section Skips

variable (number : Half) (cause : OutcomeCause)

theorem countSkip_channel :
    (countSkip number cause k s).channel k =
      { s.channel k with tally := (s.channel k).tally.count number .skipped cause } := by
  unfold countSkip
  dsimp only
  split
  · rw [State.channel_ask, State.channel_setChannel_same]
  · rw [State.channel_setChannel_same]

theorem countSkip_waits (idle : (s.channel k).state = .idle) : (countSkip number cause k s).waitingFor (.viewTally k) = true := by
  rw [countSkip]
  rw [if_pos idle]
  exact State.waitingFor_ask _ _ (Request.same_self _)

end Skips

/-! ### A view frame overtaken -/

section Overtake

variable (time : DWord)

theorem overtake_elsewhere (other : (s.channel k).state ≠ .claiming) : overtake time k s = s := if_neg other

theorem overtake_claiming (claiming : (s.channel k).state = .claiming) (frame : (s.channel k).frame = some v)
    (fresh : v.abandoned = none) :
    (overtake time k s).channel k = { s.channel k with state := .returning, frame := some (leftBehind v .lateBuffer time) } := by
  rw [overtake, if_pos claiming, abandonFrame_eq]
  exact abandons_returning frame fresh .lateBuffer time (.inl claiming)

theorem abandonFrame_tally (cause : OutcomeCause) :
    ((abandonFrame k cause time s).channel k).tally = (s.channel k).tally := by
  refine s.withFrame_induct (fun t => (t.channel k).tally = (s.channel k).tally) rfl fun v => ?_
  have moved (c : ChannelState) (w : ViewFrame) : ((s.moveChannel k c w).channel k).tally = (s.channel k).tally := by
    rw [State.channel_moveChannel_same]
  split
  · rfl
  · split
    · exact moved _ _
    · unfold returnSlot
      dsimp only
      split
      · rw [State.channel_exchangeSlot]
        exact moved _ _
      · exact moved _ _
    · exact moved _ _
    · rw [State.channel_withdraw]
      exact moved _ _
    · rw [State.channel_withdraw]
      exact moved _ _
    all_goals rfl

theorem overtake_tally : ((overtake time k s).channel k).tally = (s.channel k).tally := by
  unfold overtake
  split
  · exact abandonFrame_tally time _
  · rfl

theorem overtake_busy (busy : (s.channel k).state ≠ .idle) : ((overtake time k s).channel k).state ≠ .idle := by
  unfold overtake
  split
  · exact State.KeepsBusy.abandonFrame s k _ time k busy
  · exact busy

end Overtake

/-! ### Dispositions taken -/

section Taken

variable {p : Plan} {number : Half} {time : DWord} {b : BankId}

theorem takeDisposition_opens_busy (busy : (s.channel k).state ≠ .idle) :
    takeDisposition p number time b k .opens s = countSkip number .busy k s := if_neg busy

theorem takeDisposition_opens_idle {z : Sizes} (idle : (s.channel k).state = .idle) (sizes : p.sizes[k] = some z) :
    takeDisposition p number time b k .opens s = openFrame p p.views[k] z number time b k s := by
  rw [takeDisposition]
  rw [if_pos idle, sizes]

/-- Whatever the disposition, a channel that is not IDLE keeps state and view frame. -/
theorem takeDisposition_busy (x : Disposition) (busy : (s.channel k).state ≠ .idle) :
    ((takeDisposition p number time b k x s).channel k).state = (s.channel k).state
      ∧ ((takeDisposition p number time b k x s).channel k).frame = (s.channel k).frame := by
  cases x with
  | notOffered => exact ⟨rfl, rfl⟩
  | skips cause =>
    rw [takeDisposition, countSkip_channel]
    exact ⟨rfl, rfl⟩
  | opens =>
    rw [takeDisposition_opens_busy busy, countSkip_channel]
    exact ⟨rfl, rfl⟩

theorem queueClaim_ready {q : PoolId} {r : ClaimRequest} (ready : (s.scanner q).state = .ready) :
    queueClaim q r s = s.setScanner q { s.scanner q with queue := (s.scanner q).queue ++ [r] } := by
  rw [queueClaim, ready]

theorem queueClaim_faulted {q : PoolId} {r : ClaimRequest} (faulted : (s.scanner q).state = .faulted) :
    queueClaim q r s = claimFailed .poolFault r.view s := by
  rw [queueClaim, faulted]

end Taken

/-! ### A frame start notice at one channel -/

/-- What a frame start notice finds at channel k: the bank's copies cancelled, and nothing else of the channel touched. -/
structure State.Cleared (b : BankId) (k : ViewId) (s z : State) : Prop where
  state : (z.channel k).state = (s.channel k).state
  tally : (z.channel k).tally = (s.channel k).tally
  empty : (s.channel k).frame = none → z.channel k = s.channel k
  frame : ∀ v, (s.channel k).frame = some v → (z.channel k).frame = some (v.afterClearing b)
  copies : ∀ v, (s.channel k).frame = some v → v.bank = b ∧ (v.copy = .due ∨ v.copy = .waiting) →
    z.waitingFor (.metadataCopy k) = false

theorem cleared_of_cancelCopy {b : BankId} {z₀ z : State} (before : z₀.channel k = s.channel k)
    (after : z.channel k = (cancelCopy b k z₀).channel k) (asks : (cancelCopy b k z₀).Asks z) : s.Cleared b k z := by
  obtain ⟨state, tally⟩ := cancelCopy_keeps (s := z₀) b k
  rw [before] at state tally
  refine ⟨by rw [after, state], by rw [after, tally], fun none => ?_, fun v frame => ?_, fun v frame cancelled => ?_⟩
  · rw [after, cancelCopy_none b (by rw [before]; exact none), before]
  · rw [after, cancelCopy_channel b (by rw [before]; exact frame)]
  · exact asks.copies k (cancelCopy_cancels b (by rw [before]; exact frame) cancelled)

/-- What the notice leaves at an IDLE channel that opens with a READY pool. -/
theorem takeDisposition_opens_ready {p : Plan} {number : Half} {time : DWord} {b : BankId} {z : Sizes} (idle : (s.channel k).state = .idle)
    (sizes : p.sizes[k] = some z) (ready : (s.scanner p.views[k].poolId).state = .ready) :
    (takeDisposition p number time b k .opens s).channel k =
        { state := .claiming, frame := some (newFrame p p.views[k] z number time b), tally := (s.channel k).tally }
      ∧ { view := k, needed := z.neededBytes, tag := number } ∈
        ((takeDisposition p number time b k .opens s).scanner p.views[k].poolId).queue := by
  rw [takeDisposition_opens_idle idle sizes, openFrame,
    queueClaim_ready (s := s.moveChannel k .claiming (newFrame p p.views[k] z number time b)) ready, State.scanner_setScanner_same]
  exact ⟨s.channel_moveChannel_same k _ _, List.mem_append_right _ (List.mem_singleton_self _)⟩

/-- What the notice leaves at an IDLE channel that opens with a FAULTED pool: the claim fails at once. -/
theorem takeDisposition_opens_faulted {p : Plan} {number : Half} {time : DWord} {b : BankId} {z : Sizes}
    (idle : (s.channel k).state = .idle) (sizes : p.sizes[k] = some z) (faulted : (s.scanner p.views[k].poolId).state = .faulted) :
    ((takeDisposition p number time b k .opens s).channel k).state = .returning
      ∧ ((takeDisposition p number time b k .opens s).channel k).tally = (s.channel k).tally.count number .skipped .poolFault
      ∧ (takeDisposition p number time b k .opens s).waitingFor (.viewTally k) = true
      ∧ (takeDisposition p number time b k .opens s).flagged .frameSkipped = true := by
  rw [takeDisposition_opens_idle idle sizes, openFrame,
    queueClaim_faulted (s := s.moveChannel k .claiming (newFrame p p.views[k] z number time b)) faulted]
  have opened := s.channel_moveChannel_same k .claiming (newFrame p p.views[k] z number time b)
  generalize s.moveChannel k .claiming (newFrame p p.views[k] z number time b) = y at *
  obtain ⟨⟨w, channel, -⟩, waits, flagged⟩ := (claimFailed_fails (s := y) .poolFault k).claiming
    (newFrame p p.views[k] z number time b) (by rw [opened]) rfl (by rw [opened])
  rw [opened] at channel
  exact ⟨by rw [channel], by rw [channel]; rfl, waits, flagged⟩

theorem State.Cleared.overtake_idle {b : BankId} {z : State} (cleared : s.Cleared b k z) (idle : (s.channel k).state = .idle)
    (time : DWord) : overtake time k z = z :=
  overtake_elsewhere time (by rw [cleared.state, idle]; decide)

/-- Channel k at a frame start: with the bank's copies cancelled from u to z, a CLAIMING channel is overtaken and the disposition taken. -/
structure State.NoticedAt (k : ViewId) (p : Plan) (number : Half) (x : Disposition) (s u z t : State) : Prop where
  cleared : u.Cleared t.tracker.currentBank k z
  scanners : ∀ q, (z.scanner q).state = (s.scanner q).state
  tells : (takeDisposition p number s.timebase t.tracker.currentBank k x (overtake s.timebase k z)).Tells t
  channel : t.channel k = (takeDisposition p number s.timebase t.tracker.currentBank k x (overtake s.timebase k z)).channel k

namespace State.NoticedAt

variable {p : Plan} {number : Half} {x : Disposition} {u z t : State}

theorem opens_ready (noticed : NoticedAt k p number .opens s u z t) {sizes : Sizes} (idle : (u.channel k).state = .idle)
    (derived : p.sizes[k] = some sizes) (ready : (s.scanner p.views[k].poolId).state = .ready) :
    t.channel k =
        { state := .claiming, frame := some (newFrame p p.views[k] sizes number s.timebase t.tracker.currentBank),
          tally := (u.channel k).tally }
      ∧ { view := k, needed := sizes.neededBytes, tag := number } ∈ (t.scanner p.views[k].poolId).queue := by
  obtain ⟨cleared, scanners, tells, channel⟩ := noticed
  rw [cleared.overtake_idle idle s.timebase] at channel tells
  obtain ⟨claims, queued⟩ := takeDisposition_opens_ready (number := number) (time := s.timebase) (b := t.tracker.currentBank)
    (cleared.state.trans idle) derived ((scanners _).trans ready)
  obtain ⟨more, queue⟩ := (tells.scanners p.views[k].poolId).2
  refine ⟨?_, by rw [queue]; exact List.mem_append_left _ queued⟩
  rw [channel, claims, cleared.tally]

theorem opens_faulted (noticed : NoticedAt k p number .opens s u z t) {sizes : Sizes} (idle : (u.channel k).state = .idle)
    (derived : p.sizes[k] = some sizes) (faulted : (s.scanner p.views[k].poolId).state = .faulted) :
    (t.channel k).state = .returning ∧ (t.channel k).tally = (u.channel k).tally.count number .skipped .poolFault
      ∧ t.waitingFor (.viewTally k) = true ∧ t.flagged .frameSkipped = true := by
  obtain ⟨cleared, scanners, tells, channel⟩ := noticed
  rw [cleared.overtake_idle idle s.timebase] at channel tells
  obtain ⟨returning, counted, waits, raised⟩ := takeDisposition_opens_faulted (number := number) (time := s.timebase)
    (b := t.tracker.currentBank) (cleared.state.trans idle) derived ((scanners _).trans faulted)
  rw [channel]
  exact ⟨returning, by rw [counted, cleared.tally], tells.asks.waits _ (fun _ => nofun) waits, tells.flagged raised⟩

theorem opens_busy (noticed : NoticedAt k p number .opens s u z t) (busy : (u.channel k).state ≠ .idle) :
    (t.channel k).tally = (u.channel k).tally.count number .skipped .busy := by
  have other : ((overtake s.timebase k z).channel k).state ≠ .idle := overtake_busy _ (by rw [noticed.cleared.state]; exact busy)
  rw [noticed.channel, takeDisposition_opens_busy other, countSkip_channel, overtake_tally, noticed.cleared.tally]

/-- A view skipped is counted, and an IDLE channel asks for its tally. -/
theorem skips {cause : OutcomeCause} (noticed : NoticedAt k p number (.skips cause) s u z t) :
    (t.channel k).tally = (u.channel k).tally.count number .skipped cause
      ∧ ((u.channel k).state = .idle → (t.channel k).state = .idle ∧ t.waitingFor (.viewTally k) = true) := by
  obtain ⟨cleared, -, tells, channel⟩ := noticed
  rw [takeDisposition] at channel tells
  refine ⟨by rw [channel, countSkip_channel, overtake_tally, cleared.tally], fun idle => ?_⟩
  rw [cleared.overtake_idle idle s.timebase] at channel tells
  have here : (z.channel k).state = .idle := cleared.state.trans idle
  exact ⟨by rw [channel, countSkip_channel]; exact here, tells.asks.waits _ (fun _ => nofun) (countSkip_waits number cause here)⟩

theorem notOffered (noticed : NoticedAt k p number .notOffered s u z t) :
    (t.channel k).tally = (u.channel k).tally
      ∧ ((u.channel k).state = .idle → (u.channel k).frame = none → t.channel k = u.channel k) := by
  obtain ⟨cleared, -, -, channel⟩ := noticed
  rw [takeDisposition] at channel
  refine ⟨by rw [channel, overtake_tally, cleared.tally], fun idle none => ?_⟩
  rw [channel, cleared.overtake_idle idle s.timebase]
  exact cleared.empty none

/-- A busy channel, whatever the disposition: its view frame goes on, or is left behind while CLAIMING. -/
theorem busy (noticed : NoticedAt k p number x s u z t) (busy : (u.channel k).state ≠ .idle) (old : (u.channel k).frame = some v) :
    (v.bank = t.tracker.currentBank ∧ (v.copy = .due ∨ v.copy = .waiting) → t.waitingFor (.metadataCopy k) = false)
      ∧ ((u.channel k).state ≠ .claiming → (t.channel k).state = (u.channel k).state
        ∧ (t.channel k).frame = some (v.afterClearing t.tracker.currentBank))
      ∧ ((u.channel k).state = .claiming → v.abandoned = none → (t.channel k).state = .returning
        ∧ (t.channel k).frame = some (leftBehind (v.afterClearing t.tracker.currentBank) .lateBuffer s.timebase)) := by
  obtain ⟨cleared, -, tells, channel⟩ := noticed
  have frame := cleared.frame v old
  have asks := ((State.Tells.overtake z s.timebase k).trans
    (.takeDisposition _ p number s.timebase t.tracker.currentBank k x)).asks.trans tells.asks
  have other : ((overtake s.timebase k z).channel k).state ≠ .idle := overtake_busy _ (by rw [cleared.state]; exact busy)
  obtain ⟨state, kept⟩ := takeDisposition_busy (p := p) (number := number) (time := s.timebase) (b := t.tracker.currentBank) x other
  rw [← channel] at state kept
  refine ⟨fun cancelled => asks.copies k (cleared.copies v old cancelled), fun elsewhere => ?_, fun claiming fresh => ?_⟩
  · rw [state, kept, overtake_elsewhere s.timebase (by rw [cleared.state]; exact elsewhere)]
    exact ⟨cleared.state, frame⟩
  · have alive : (v.afterClearing t.tracker.currentBank).abandoned = none := by
      rw [ViewFrame.afterClearing]
      split <;> exact fresh
    rw [state, kept, overtake_claiming s.timebase (cleared.state.trans claiming) frame alive]
    exact ⟨rfl, rfl⟩

end State.NoticedAt

/-! ### The notices of a frame start -/

theorem raiseMismatch_adopted {p : Plan} (adopted : s.plan.adopted = some p) (gap : Bool) :
    raiseMismatch gap s =
      if s.run.state = .running ∧ gap = false ∧ p.mismatch s.tracker = true then s.raise .formatMismatch else s := by
  rw [raiseMismatch, adopted]

section WholeStart

variable (number width height : Half) (depth : Byte)

/-- The tracker's values that the notices carry. -/
theorem takeFrameStart_values :
    (takeFrameStart number width height depth s).tracker.frameNumber = number
      ∧ (takeFrameStart number width height depth s).tracker.startTime = s.timebase
      ∧ (takeFrameStart number width height depth s).tracker.currentBank = s.tracker.nextBank := by
  obtain ⟨limit, deadline, -, tracker⟩ := takeFrameStart_tracker s number width height depth
  rw [tracker]
  exact ⟨rfl, rfl, rfl⟩

/-- Before the notices: run and time stand, the scanners too, and no format mismatch has been raised. -/
theorem planned_keeps :
    (s.planned number width height depth).run = s.run ∧ (s.planned number width height depth).timebase = s.timebase
      ∧ (s.planned number width height depth).scanners = s.scanners
      ∧ (∀ k, (s.planned number width height depth).channel k = (s.begun number width height depth).channel k)
      ∧ (s.begun number width height depth).Asks (s.planned number width height depth)
      ∧ (s.planned number width height depth).flagged .formatMismatch = s.flagged .formatMismatch := by
  obtain ⟨channel, scanners, run, timebase, asks, flagged⟩ := planFrameStart_keeps (s := s.begun number width height depth) number
  obtain ⟨attention, -, standing, -, -⟩ := begun_keeps (s := s) number width height depth
  have same := begun_sameRun (s := s) number width height depth
  refine ⟨run.trans same.run, timebase.trans same.timebase, scanners.trans standing, channel, asks, flagged.trans ?_⟩
  rw [State.flagged, State.flagged, attention]

variable {p : Plan} (adopted : (takeFrameStart number width height depth s).plan.adopted = some p)

include adopted

/-- A format mismatch is raised in RUNNING outside an adoption gap, and otherwise its flag stands. -/
theorem takeFrameStart_flagged :
    (s.run.state = .running ∧ (s.begun number width height depth).adoptionGap = false
        ∧ p.mismatch (takeFrameStart number width height depth s).tracker = true →
      (takeFrameStart number width height depth s).flagged .formatMismatch = true)
    ∧ (¬(s.run.state = .running ∧ (s.begun number width height depth).adoptionGap = false
        ∧ p.mismatch (takeFrameStart number width height depth s).tracker = true) →
      (takeFrameStart number width height depth s).flagged .formatMismatch = s.flagged .formatMismatch) := by
  obtain ⟨run, -, -, -, -, flagged⟩ := planned_keeps (s := s) number width height depth
  rw [takeFrameStart_planned] at adopted ⊢
  generalize (s.begun number width height depth).adoptionGap = gap at *
  generalize s.planned number width height depth = x at *
  have same := startTold_same (s := x) gap
  have told := frameStartNotices_tells (raiseMismatch gap (armGap x)) gap
  have stands : (x.startTold gap).flagged .formatMismatch = (raiseMismatch gap (armGap x)).flagged .formatMismatch :=
    told.flagged_eq (by decide)
  have decided : (armGap x).plan.adopted = some p := by rw [← same.plan]; exact adopted
  rw [raiseMismatch_adopted decided, ← same.tracker, show (armGap x).run = s.run from run] at stands
  refine ⟨fun raises => ?_, fun keeps => ?_⟩
  · rw [stands, if_pos raises]
    exact flagged_of_or (flags := x.attention.flags) (mask := 0x0800) rfl (by decide)
  · rw [stands, if_neg keeps]
    exact flagged

/-- Every channel gets the notice of a frame start. -/
theorem takeFrameStart_noticed (k : ViewId) :
    ∃ z, State.NoticedAt k p number
      (disposition s.run.state (s.begun number width height depth).adoptionGap p (takeFrameStart number width height depth s).tracker k)
      s (s.truncates .truncated) z (takeFrameStart number width height depth s) := by
  obtain ⟨n, time, bank⟩ := takeFrameStart_values (s := s) number width height depth
  obtain ⟨run, timebase, scanners, channel, asks, -⟩ := planned_keeps (s := s) number width height depth
  obtain ⟨z₀, same₀, cleared, asked⟩ := begun_channel (s := s) number width height depth k
  rw [takeFrameStart_planned] at n time bank adopted ⊢
  generalize (s.begun number width height depth).adoptionGap = gap at *
  generalize s.planned number width height depth = x at *
  obtain ⟨before, standing, queue⟩ := raiseMismatch_armGap_keeps (s := x) gap
  obtain ⟨z, told, here, after, outcome⟩ := frameStartNotices_channel (raiseMismatch gap (armGap x)) gap k
  have same := startTold_same (s := x) gap
  have there : (armGap x).SameBlocks z := (raiseMismatch_same (armGap x) gap).trans told.same
  have decided : z.plan.adopted = some p := by rw [there.plan, ← same.plan]; exact adopted
  have tracker : z.tracker = (x.startTold gap).tracker := by rw [there.tracker, same.tracker]
  have runs : z.run = s.run := there.run.trans run
  have now : z.timebase = s.timebase := there.timebase.trans timebase
  rw [frameStartNotice_adopted z decided, tracker, runs, now, n, time] at after outcome
  have stays : (cancelCopy s.tracker.nextBank k z₀).Asks z :=
    ((asked.trans asks).trans (.of_requests (congrArg WriteQueue.requests queue))).trans told.asks
  refine ⟨z, ?_, fun q => ?_, after, outcome⟩
  · rw [bank]
    exact cleared_of_cancelCopy same₀ (by rw [here, before, channel, cleared]) stays
  · rw [(told.scanners q).1, State.scanner_of_scanners standing, State.scanner_of_scanners scanners]

end WholeStart

end Sys2Proof.Machine

namespace Sys2Proof
open Sys2Proof.Machine

/-- Settles O31: the next bank's copies are cancelled, a CLAIMING channel is overtaken, and the disposition decides the view. -/
theorem viewsAtFrameStart : Obligations.ViewsAtFrameStart := by
  intro s t runs between h payload complete kind run
  rw [exec_packetComplete complete, passPacket_frameStart _ _ kind] at run
  have ended := Host.Outcome.next.inj run
  intro n u p adopted gap mismatch
  generalize BitVec.ofNat 16 (leValue (payload.take 2)) = width at ended
  generalize BitVec.ofNat 16 (leValue ((payload.drop 2).take 2)) = height at ended
  generalize payload.getD 4 0 = depth at ended
  rw [← ended] at adopted
  obtain ⟨number, -, -⟩ := takeFrameStart_values (s := s.packetTaken runs h) (headerNumber h) width height depth
  have inGap := begun_adoptionGap (s := s.packetTaken runs h) (headerNumber h) width height depth
  have flags := takeFrameStart_flagged (headerNumber h) width height depth adopted
  have notices := takeFrameStart_noticed (headerNumber h) width height depth adopted
  rw [ended] at number flags notices
  generalize ((s.packetTaken runs h).begun (headerNumber h) width height depth).adoptionGap = g at *
  have mismatches : p.mismatch t.tracker = true ↔ mismatch := p.mismatch_iff t.tracker
  have outside (none : ¬gap) : g = false := Bool.eq_false_iff.mpr (none ∘ inGap.mp)
  have fits (none : ¬mismatch) : p.mismatch t.tracker = false := Bool.eq_false_iff.mpr (none ∘ mismatches.mp)
  refine ⟨fun running none differs => flags.1 ⟨running, outside none, mismatches.mpr differs⟩, fun other => ?_, ?_⟩
  · refine flags.2 fun ⟨running, out, differs⟩ => ?_
    rcases other with elsewhere | inside | same
    · exact elsewhere running
    · exact Bool.false_ne_true (out.symm.trans (inGap.mpr inside))
    · exact same (mismatches.mp differs)
  intro k selected skipped
  obtain ⟨z, noticed⟩ := notices k
  have now : State.NoticedAt k p n (disposition s.run.state g p t.tracker k) s u z t :=
    ⟨noticed.cleared, noticed.scanners, noticed.tells, noticed.channel⟩
  have chosen : p.selects k t.tracker.frameNumber = true ↔ selected := by rw [p.selects_iff, number]
  have opens (running : s.run.state = .running) (view : selected) (none : ¬gap) (same : ¬mismatch) :
      State.NoticedAt k p n .opens s u z t := by
    rw [running, disposition_opens (chosen.mpr view) (outside none) (fits same)] at now
    exact now
  refine ⟨fun _ running view none same idle => (opens running view none same).opens_ready idle,
    fun _ running view none same idle => (opens running view none same).opens_faulted idle,
    fun running view none same busy => ⟨(opens running view none same).opens_busy busy, fun idle => absurd idle busy⟩,
    fun running view none differs => ?_, fun running view inside => ?_, fun other => ?_, fun _ busy old => now.busy busy old⟩
  · rw [running, disposition_mismatch (chosen.mpr view) (outside none) (mismatches.mpr differs)] at now
    exact now.skips
  · rw [running, disposition_gap (chosen.mpr view) (inGap.mpr inside)] at now
    exact now.skips
  · rw [disposition_notOffered (other.imp_right fun none => none ∘ chosen.mp)] at now
    exact now.notOffered

end Sys2Proof
end
